-- ==== Sys2Proof/Word.lean ====
section
/-! DEFINITION. The bit-vector types every other file uses (widths of 10_state.md and 30_encoding.md). -/

namespace Sys2Proof

/-- One byte: a data byte, an order value, a cursor. -/
abbrev Byte := BitVec 8

/-- A data-item identifier, 0 to 255 (R104). -/
abbrev Ident := BitVec 8

/-- A 32-bit register: the shift register, the timeout counter, a command argument. -/
abbrev Word := BitVec 32

/-- An instant or a duration of the free-running millisecond clock `now` (R233). -/
abbrev Millis := BitVec 32

/-- The command word `cw[35:0]` (R115). -/
abbrev CommandWord := BitVec 36

end Sys2Proof
end

