-- ==== Sys2Proof/Config.lean ====
section
/-! DEFINITION. What is fixed for one block and not chosen by the spec: the OPEN parameters of R8, and the one free value the
model draws (the level of an output pin nobody has configured, U1). -/

namespace Sys2Proof

/-- The OPEN platform parameters of R8. They are an argument of the model: `State` carries one `Platform`, no step writes it,
and a statement about every state speaks of every platform. (The other two OPEN parameters, `DEVICE_TIMEOUT_MS` and
`SYNC_MODE`, are the registers `cfg_timeout_ms` and `cfg_sync` of R41.) -/
structure Platform where
  /-- `TIMER_AVAILABLE`: false on platforms lacking a free periodic timer (R8, R143). -/
  timerAvailable : Bool
  /-- `rank`: entry `i` is `rank(i)`; it resolves every order the source leaves open (R220). -/
  rank : Vector Nat 256
  deriving DecidableEq, Repr

/-- R220's default `rank`, the identity, on a platform that has a timer (DESIGN CHOICE, log 3). -/
def Platform.standard : Platform where
  timerAvailable := true
  rank := Vector.mk (List.range 256).toArray (by simp)

/-- R220: `rank` is injective. -/
abbrev Platform.RankInjective (p : Platform) : Prop := p.rank.toList.Nodup

/-- R8, R41: the largest legal `DEVICE_TIMEOUT_MS`, so that five times the value fits 32 bits. -/
def maxTimeoutMs : Nat := 858993459

/-- FREE VALUE (U1, log 7): the electrical level of the output pin at its `k`-th observation while the pin is not configured.
The spec gives it no value, so nothing can be proved about it. -/
opaque Config.unconfiguredLevel : Nat → Bool

end Sys2Proof
end

