-- ==== Sys2Proof/Syntax.lean ====
section
/-! DEFINITION. The eleven operations of spec/opcode_table.json, one constructor per row. -/

namespace Sys2Proof

/-- An operation of the block: six transceiver commands, the timer tick, two configuration writes, setup and the main-loop
call (R116). Field order is the order of the command word, high bits first. -/
inductive Instr where
  /-- `INIT`, `initialize()` (R143). -/
  | init
  /-- `LISTEN`, `listen()` (R144). -/
  | listen
  /-- `SEND`, `send(frame)` (R145): message type, identifier, high and low data byte. -/
  | send (ty : BitVec 3) (id : Ident) (hb lb : Byte)
  /-- `GET_MESSAGE`, `get_message(out)` (R146). -/
  | getMessage
  /-- `GET_PROTOCOL_ERROR`, `get_protocol_error(out)` (R147). -/
  | getProtocolError
  /-- `STOP`, `stop()` (R148). -/
  | stop
  /-- `TICK(v)`, the timer callback with the sampled input level (R170). -/
  | tick (v : Bool)
  /-- `CFG_MSG(id, order)` (R215). -/
  | cfgMsg (id : Ident) (order : Byte)
  /-- `CFG_CTRL(sync, timeout_ms)` (R216). -/
  | cfgCtrl (sync : Bool) (timeoutMs : BitVec 30)
  /-- `SETUP` (R217). -/
  | setup
  /-- `LOOP(now)` (R225). -/
  | loop (now : Millis)
  deriving DecidableEq, Repr

/-- The two agents that take steps (R6, R299); the line environment takes none. -/
inductive Agent where
  /-- The periodic timer's interrupt context. -/
  | timer
  /-- The cooperative main loop. -/
  | host
  deriving DecidableEq, Repr

end Sys2Proof
end

