-- ==== Sys2Proof/WellFormed.lean ====
section
/-! DEFINITION. Which terms of `Instr` are operations of the block: the field widths are in the types, so the one check left is
`CFG_CTRL`'s range (R117, R216). -/

namespace Sys2Proof

/-- R117: `CFG_CTRL` with `timeout_ms > 858 993 459` is an illegal command; every other field value is legal. -/
def Instr.wellFormed : Instr → Bool
  | .init => true
  | .listen => true
  | .send _ _ _ _ => true
  | .getMessage => true
  | .getProtocolError => true
  | .stop => true
  | .tick _ => true
  | .cfgMsg _ _ => true
  | .cfgCtrl _ timeoutMs => decide (timeoutMs.toNat ≤ maxTimeoutMs)
  | .setup => true
  | .loop _ => true

end Sys2Proof
end

