-- ==== Sys2Proof/Decode.lean ====
section
/-! DEFINITION. The command word (R115 to R117): decoder, encoder, and the opcode table as the spec prints it. -/

namespace Sys2Proof

/-- Why a command word is refused (R117). -/
inductive DecodeError where
  /-- Operation codes 0xB to 0xF are unassigned (X1). -/
  | unassignedOperation
  /-- A must-be-zero argument bit is 1 (X2). -/
  | reservedBitSet
  /-- `CFG_CTRL` with `timeout_ms > 858 993 459` (X6). -/
  | timeoutOutOfRange
  deriving DecidableEq, Repr

/-- `cw[35:32]`, the operation code. -/
def opOf (w : CommandWord) : BitVec 4 := w.extractLsb' 32 4

/-- `cw[31:0]`, the argument. -/
def argOf (w : CommandWord) : Word := w.extractLsb' 0 32

/-- An operation without operands: all 32 argument bits must be zero (R116). -/
def decodeBare (i : Instr) (arg : Word) : Except DecodeError Instr :=
  if arg = 0 then .ok i else .error .reservedBitSet

/-- `SEND`: `arg[31]` and `arg[27:24]` must be zero (R116). -/
def decodeSend (arg : Word) : Except DecodeError Instr :=
  if arg.extractLsb' 31 1 = 0 ∧ arg.extractLsb' 24 4 = 0 then
    .ok (.send (arg.extractLsb' 28 3) (arg.extractLsb' 16 8) (arg.extractLsb' 8 8) (arg.extractLsb' 0 8))
  else .error .reservedBitSet

/-- `TICK`: `arg[0]` is the sample, `arg[31:1]` must be zero (R116). -/
def decodeTick (arg : Word) : Except DecodeError Instr :=
  if arg.extractLsb' 1 31 = 0 then .ok (.tick (arg.getLsbD 0)) else .error .reservedBitSet

/-- `CFG_MSG`: `arg[31:16]` must be zero (R116). -/
def decodeCfgMsg (arg : Word) : Except DecodeError Instr :=
  if arg.extractLsb' 16 16 = 0 then .ok (.cfgMsg (arg.extractLsb' 8 8) (arg.extractLsb' 0 8))
  else .error .reservedBitSet

/-- `CFG_CTRL`: `arg[30]` must be zero and `timeout_ms` in range (R116, R117). -/
def decodeCfgCtrl (arg : Word) : Except DecodeError Instr :=
  if arg.extractLsb' 30 1 = 0 then
    if (arg.extractLsb' 0 30).toNat ≤ maxTimeoutMs then
      .ok (.cfgCtrl (arg.getLsbD 31) (arg.extractLsb' 0 30))
    else .error .timeoutOutOfRange
  else .error .reservedBitSet

/-- The operation a command word selects, or the reason it selects none (R116, R117). -/
def decode (w : CommandWord) : Except DecodeError Instr :=
  match (opOf w).toNat with
  | 0x0 => decodeBare .init (argOf w)
  | 0x1 => decodeBare .listen (argOf w)
  | 0x2 => decodeSend (argOf w)
  | 0x3 => decodeBare .getMessage (argOf w)
  | 0x4 => decodeBare .getProtocolError (argOf w)
  | 0x5 => decodeBare .stop (argOf w)
  | 0x6 => decodeTick (argOf w)
  | 0x7 => decodeCfgMsg (argOf w)
  | 0x8 => decodeCfgCtrl (argOf w)
  | 0x9 => decodeBare .setup (argOf w)
  | 0xA => .ok (.loop (argOf w))
  | _ => .error .unassignedOperation

/-- A field placed so that its bit 0 is bit `lo` of an `m`-bit word, the other bits being 0. -/
def place {n : Nat} (m lo : Nat) (field : BitVec n) : BitVec m := field.setWidth m <<< lo

/-- The operation code of R116. -/
def Instr.op : Instr → BitVec 4
  | .init => 0x0
  | .listen => 0x1
  | .send _ _ _ _ => 0x2
  | .getMessage => 0x3
  | .getProtocolError => 0x4
  | .stop => 0x5
  | .tick _ => 0x6
  | .cfgMsg _ _ => 0x7
  | .cfgCtrl _ _ => 0x8
  | .setup => 0x9
  | .loop _ => 0xA

/-- The argument layout of R116. -/
def Instr.arg : Instr → Word
  | .init => 0
  | .listen => 0
  | .send ty id hb lb => place 32 28 ty ||| place 32 16 id ||| place 32 8 hb ||| place 32 0 lb
  | .getMessage => 0
  | .getProtocolError => 0
  | .stop => 0
  | .tick v => place 32 0 (BitVec.ofBool v)
  | .cfgMsg id order => place 32 8 id ||| place 32 0 order
  | .cfgCtrl sync timeoutMs => place 32 31 (BitVec.ofBool sync) ||| place 32 0 timeoutMs
  | .setup => 0
  | .loop now => now

/-- The command word of an operation (R115: `cw[35:32] = op`, `cw[31:0] = arg`). -/
def encode (i : Instr) : CommandWord := place 36 32 i.op ||| place 36 0 i.arg

/-- The agent whose step the operation is (R116, column "agent"). -/
def Instr.agent : Instr → Agent
  | .init => .host
  | .listen => .host
  | .send _ _ _ _ => .host
  | .getMessage => .host
  | .getProtocolError => .host
  | .stop => .host
  | .tick _ => .timer
  | .cfgMsg _ _ => .host
  | .cfgCtrl _ _ => .host
  | .setup => .host
  | .loop _ => .host

/-- One row of spec/opcode_table.json: a command word `w` belongs to it when `w AND mask = value`. -/
structure OpcodeRow where
  mnemonic : String
  value : CommandWord
  mask : CommandWord
  deriving DecidableEq, Repr

/-- The opcode table, row by row as spec/opcode_table.json gives it. -/
def opcodeTable : List OpcodeRow :=
  [ ⟨"INIT", 0x000000000, 0xFFFFFFFFF⟩,
    ⟨"LISTEN", 0x100000000, 0xFFFFFFFFF⟩,
    ⟨"SEND", 0x200000000, 0xF8F000000⟩,
    ⟨"GET_MESSAGE", 0x300000000, 0xFFFFFFFFF⟩,
    ⟨"GET_PROTOCOL_ERROR", 0x400000000, 0xFFFFFFFFF⟩,
    ⟨"STOP", 0x500000000, 0xFFFFFFFFF⟩,
    ⟨"TICK", 0x600000000, 0xFFFFFFFFE⟩,
    ⟨"CFG_MSG", 0x700000000, 0xFFFFF0000⟩,
    ⟨"CFG_CTRL", 0x800000000, 0xF40000000⟩,
    ⟨"SETUP", 0x900000000, 0xFFFFFFFFF⟩,
    ⟨"LOOP", 0xA00000000, 0xF00000000⟩ ]

/-- Whether a command word belongs to a row. -/
def OpcodeRow.matches (r : OpcodeRow) (w : CommandWord) : Bool := w &&& r.mask == r.value

/-- The row of spec/opcode_table.json a constructor stands for. -/
def Instr.mnemonic : Instr → String
  | .init => "INIT"
  | .listen => "LISTEN"
  | .send _ _ _ _ => "SEND"
  | .getMessage => "GET_MESSAGE"
  | .getProtocolError => "GET_PROTOCOL_ERROR"
  | .stop => "STOP"
  | .tick _ => "TICK"
  | .cfgMsg _ _ => "CFG_MSG"
  | .cfgCtrl _ _ => "CFG_CTRL"
  | .setup => "SETUP"
  | .loop _ => "LOOP"

/-- The operation read from a command word given as a number whose bit 0 is `cw[0]` (the table's numbering). A command word
has 36 bits, so a number with a higher bit set is none. -/
def decodeTableWord (nbits w : Nat) : Option Instr :=
  if w < 2 ^ nbits ∧ w < 2 ^ 36 then (decode (BitVec.ofNat 36 w)).toOption else none

end Sys2Proof
end

