-- ==== Sys2Proof/Machine/State.lean ====
section
/-! DEFINITION. The state of OT-MTX: the transceiver record and the scheduler record of 10_state.md, the platform parameters,
and the model's own input and output ports. All of it is plain data. -/

namespace Sys2Proof.Machine

/-- The operation mode of the transceiver (R111). -/
inductive Mode where
  | idle | listen | read | received | write | sent | errorProtocol | errorTimeout | errorTimer
  deriving DecidableEq, Repr

/-- The protocol error classification held in `err` (R112). -/
inductive ProtocolError where
  | noError | noTransition | invalidStopBit | parityError | noChangeTooLong
  deriving DecidableEq, Repr

/-- The timer error classification held in `terr` (R113). -/
inductive TimerError where
  | none | arm | disarm
  deriving DecidableEq, Repr

/-- The rate of the periodic timer: `RX` five ticks per bit period, `TX` two (R30, R110). -/
inductive Rate where
  | rx | tx
  deriving DecidableEq, Repr

/-- The startup-versus-repeating phase flag (R36). -/
inductive Phase where
  | initial | repeating
  deriving DecidableEq, Repr

/-- What a timer primitive returns: the environment's draw (R43, R140, R141). -/
inductive TimerResult where
  | ok | fail
  deriving DecidableEq, Repr

/-- The transceiver record (R20 to R30). -/
structure Transceiver where
  /-- R21. -/
  mode : Mode
  /-- R22. -/
  err : ProtocolError
  /-- R23. -/
  terr : TimerError
  /-- R24: the shift register, shared by both directions. -/
  data : Word
  /-- R25. -/
  bitPos : BitVec 6
  /-- R26: marker bit and the samples since the last level change. -/
  capture : BitVec 16
  /-- R27: the clock phase. -/
  clock : Bool
  /-- R28: the device-timeout countdown. -/
  timeoutCnt : Word
  /-- R29: the level driven on the output pin. -/
  lineOut : Bool
  /-- R29: `INIT` has configured the pins. -/
  inited : Bool
  /-- R29: `INIT` found no timer. -/
  initFailed : Bool
  /-- R30: the periodic timer is armed, so ticks are enabled. -/
  timerRun : Bool
  /-- R30. -/
  timerRate : Rate
  deriving DecidableEq, Repr

/-- The scheduler record (R20, R33 to R41). -/
structure Scheduler where
  /-- R33: `order[0..255]`. -/
  order : Vector Byte 256
  /-- R33: `configured[0..255]`. -/
  configured : Vector Bool 256
  /-- R34: `rot[0..255]`; the active rotation list is `rot[0] .. rot[rot_len - 1]`. -/
  rot : Vector Ident 256
  /-- R34: 0 to 256. -/
  rotLen : BitVec 9
  /-- R35. -/
  cursor : Byte
  /-- R36. -/
  phase : Phase
  /-- R37. -/
  convStart : Millis
  /-- R37. -/
  convStartValid : Bool
  /-- R38. -/
  convEnd : Millis
  /-- R38. -/
  convEndValid : Bool
  /-- R39. -/
  failed : Bool
  /-- R40. -/
  setupDone : Bool
  /-- R41. -/
  cfgSync : Bool
  /-- R41. -/
  cfgTimeoutMs : Word
  deriving DecidableEq, Repr

/-- The four fields of a frame that `SEND` takes and `GET_MESSAGE` returns (R105, R106). -/
structure Frame where
  ty : BitVec 3
  id : Ident
  hb : Byte
  lb : Byte
  deriving DecidableEq, Repr

/-- What the environment supplies to ONE step (R43). Every step has its own, so a statement about every state speaks of every
draw (R12). -/
structure Env where
  /-- The draw of the step's `TimerStop`, if it makes one (R140). A step calls `TimerStop` at most once. -/
  disarm : TimerResult
  /-- The draw of the step's `TimerStart`, if it makes one (R141). A step calls `TimerStart` at most once. -/
  arm : TimerResult
  /-- The registered write handlers, each with its current value: `role(id) = WRITE_H` and `wvalue(id)` (R43). -/
  writeHandlers : List (Ident × BitVec 16)
  /-- The registered read handlers: `role(id) = READ_H` unless a write handler is registered too (R43). -/
  readHandlers : List Ident
  /-- `st_local[k]` in bit `k`, k = 0..6 (R43). -/
  stLocal : BitVec 7
  /-- `st_read[k]` in bit `k`, k = 0..6 (R43). -/
  stRead : BitVec 7
  /-- "The active setpoint is positive" (R43, R268). -/
  chSetpointPositive : Bool
  /-- `hook_pre_send` at the one frame this step gives it: `none` leaves the frame as it is, `some f` answers `f` (R238). -/
  hookPreSend : Option Frame
  /-- `hook_pre_process`, likewise (R238). -/
  hookPreProcess : Option Frame
  /-- FREE VALUE (U4, log 5): entry `k` is what `rot[k]` holds for `k >= rot_len` after the step, if the step writes the rotation
  list. The spec lets it be any value. -/
  rotRest : Vector Ident 256
  deriving DecidableEq, Repr

/-- An event output of a step (R44), its values in the order the rule gives. -/
inductive Event where
  | request (id : Ident) (ty : BitVec 3) (hb lb : Byte)
  | response (ty : BitVec 3) (id : Ident) (hb lb : Byte)
  | protocolError (err : ProtocolError) (bitPos : BitVec 6) (capture : BitVec 16) (clock : Bool)
  | timeout
  | timerFatal (terr : TimerError)
  | setupFailed
  | budgetWarning (duration : Millis)
  | cfgDefect (id : Ident)
  deriving DecidableEq, Repr

/-- The response of a command (R116, R118). -/
inductive Response where
  /-- The operation has no response. -/
  | none
  /-- `INIT` and `SETUP`: `ok`. -/
  | ack (ok : Bool)
  /-- `GET_MESSAGE`: `ok` and the word `{0, type, 0000, id, hb, lb}`, which is 0 when `ok = 0`. -/
  | message (ok : Bool) (word : Word)
  /-- `GET_PROTOCOL_ERROR`: `ok = 1` and the word `{err, bit_pos, clock, capture}`, or `ok = 0` and no word. -/
  | protocolError (answer : Option (BitVec 26))
  deriving DecidableEq, Repr

/-- What the last step put out: its response and the events it emitted, oldest first. No rule of the block reads it (R44: an
event carries values and changes no state). -/
structure Outputs where
  response : Response
  events : List Event
  deriving DecidableEq, Repr

/-- One entry of the command port: a command word (a tick's among them) and what the environment supplies to its step. -/
structure PortEntry where
  word : CommandWord
  env : Env
  deriving DecidableEq, Repr

/-- The whole state of the model. -/
structure State where
  /-- The transceiver record. -/
  tx : Transceiver
  /-- The scheduler record. -/
  sched : Scheduler
  /-- The OPEN parameters of R8 (log 3); no step writes them. -/
  platform : Platform
  /-- MODEL'S OWN: the environment's inputs to the step being taken (log 2). -/
  env : Env
  /-- MODEL'S OWN: the steps still to come, first one first: one interleaving of the host's commands and the timer's ticks
  (log 1). -/
  port : List PortEntry
  /-- MODEL'S OWN: what the last step put out (log 4). -/
  out : Outputs
  deriving DecidableEq, Repr

/-- How the machine stops with a fault. The block's own errors are modes of `Transceiver` and not faults of this type (R7: such
a fault is a next state). The two below are reads of an entry that does not exist; no state that meets `BlockInv` reaches
one. -/
inductive Fault where
  /-- `START_CONVERSATION` would read `rot[cursor]` with `cursor >= rot_len`, which breaks R84's precondition. Raised by
  `LOOP` in mode `IDLE`. Safe. -/
  | rotationEntryAbsent
  /-- `TickWrite` would send slot `bit_pos > 33`, which no frame has (R25, R74). Raised by `TICK` in mode `WRITE`. Safe. -/
  | frameSlotAbsent
  deriving DecidableEq, Repr

/-- Why a step has no meaning (R7, X1 to X8). Every one is a usage precondition the spec says is refused. -/
inductive Refusal where
  /-- An operation that has no meaning yet. Raised by `exec`'s own arms only. Safe. -/
  | notModelled (mnemonic : String)
  /-- X1, X2, X6: the command word encodes no operation (R117). Raised by `step`, and by `CFG_CTRL` for its range (R216).
  Safe. -/
  | illegalWord (why : DecodeError)
  /-- X3: `INIT` while `inited = 1` (R143). Safe. -/
  | alreadyInitialised
  /-- X4: `LISTEN` or `SEND` while `inited = 0` or `init_failed = 1` (R142). Raised by `LISTEN`, by `SEND`, and by a `LOOP`
  whose step contains one. Safe. -/
  | transceiverUnavailable
  /-- X5: `CFG_MSG` or `CFG_CTRL` while `setup_done = 1` (R215, R216). Safe. -/
  | configurationFrozen
  /-- X7: `SETUP` while `setup_done = 1` (R217). Safe. -/
  | alreadySetUp
  /-- X7: `SETUP` while `inited = 0` (R217). Safe. -/
  | setupBeforeInit
  /-- X8: `LOOP` while `setup_done = 0` (R225). Safe. -/
  | loopBeforeSetup
  deriving DecidableEq, Repr

/-- What a step answers. -/
abbrev Result := Host.Outcome State Fault Refusal

/-- The transceiver record after reset (R47). -/
def Transceiver.reset : Transceiver where
  mode := .idle
  err := .noError
  terr := .none
  data := 0
  bitPos := 0
  capture := 0
  clock := false
  timeoutCnt := 0
  lineOut := true
  inited := false
  initFailed := false
  timerRun := false
  timerRate := .rx

/-- The scheduler record after reset (R47). -/
def Scheduler.reset : Scheduler where
  order := Vector.replicate 256 0
  configured := Vector.replicate 256 false
  rot := Vector.replicate 256 0
  rotLen := 0
  cursor := 0
  phase := .initial
  convStart := 0
  convStartValid := false
  convEnd := 0
  convEndValid := false
  failed := false
  setupDone := false
  cfgSync := false
  cfgTimeoutMs := 0

/-- An environment in which the timer obeys, nothing is registered, no flag is set and both hooks are the identity. No rule
reads it after reset: `step` replaces it by the port entry's own (DESIGN CHOICE, log 2). -/
def Env.quiet : Env where
  disarm := .ok
  arm := .ok
  writeHandlers := []
  readHandlers := []
  stLocal := 0
  stRead := 0
  chSetpointPositive := false
  hookPreSend := Option.none
  hookPreProcess := Option.none
  rotRest := Vector.replicate 256 0

/-- No response and no event. -/
def Outputs.silent : Outputs where
  response := .none
  events := []

/-- The machine right after reset on a given platform (R316). -/
def State.resetOn (p : Platform) : State where
  tx := .reset
  sched := .reset
  platform := p
  env := .quiet
  port := []
  out := .silent

/-- The machine right after reset (R47, R316), on the standard platform (log 3). -/
def State.reset : State := State.resetOn .standard

end Sys2Proof.Machine
end

