-- ==== Sys2Proof/Machine/Params.lean ====
section
/-! DEFINITION. The fixed numeric parameters of R8. -/

namespace Sys2Proof.Machine

/-- `RX_TICKS_PER_BIT`, also the number of ticks one millisecond of the device timeout counts as (R8, R28, R110). -/
def rxTicksPerBit : Nat := 5

/-- `TX_TICKS_PER_BIT` (R8, R110). -/
def txTicksPerBit : Nat := 2

/-- `FRAME_BITS` (R8, R100). -/
def frameBits : Nat := 32

/-- `SLOTS` (R8, R107): one start bit, 32 frame bits, one stop bit. -/
def slots : Nat := 34

/-- The position of the start bit while sending and of the stop bit while receiving (R25). -/
def lastSlot : BitVec 6 := 33

/-- `MIN_GAP_MS` (R8, R231). -/
def minGapMs : Millis := 100

/-- `MAX_CONV_MS`, the budget and the synchronous ceiling (R8, R231, R232). -/
def maxConvMs : Millis := 1150

/-- `CAP_FULL` (R8, R173). -/
def capFull : BitVec 16 := 0xF

/-- `CAP_STALL` (R8, R178). -/
def capStall : BitVec 16 := 0xFF

/-- `ORDER_UNORDERED` (R114). -/
def orderUnordered : Byte := 254

/-- `ORDER_REPEATING` (R114). -/
def orderRepeating : Byte := 255

/-- `STATUS_ID` (R104). -/
def statusId : Ident := 0

/-- The message type codes of R102 (code 3 is reserved). -/
def typeReadData : BitVec 3 := 0
/-- R102. -/
def typeWriteData : BitVec 3 := 1
/-- R102. -/
def typeInvalidData : BitVec 3 := 2
/-- R102. -/
def typeReadAck : BitVec 3 := 4
/-- R102. -/
def typeWriteAck : BitVec 3 := 5
/-- R102. -/
def typeDataInvalid : BitVec 3 := 6
/-- R102. -/
def typeUnknownDataId : BitVec 3 := 7

end Sys2Proof.Machine
end

