-- ==== Sys2Proof/Machine/Flags.lean ====
section
/-! DEFINITION. Every derived condition a rule tests: the parity (R101), the edge age and the edge cases (R173, R174, R178), the
clock comparisons (R231 to R233), and the classes of modes (R111, R13). The block has no arithmetic flags (R32). -/

namespace Sys2Proof.Machine

/-- `popcount(w)`: the number of 1 bits (R9). -/
def popcount (w : Word) : Nat := (List.range 32).countP fun i => w.getLsbD i

/-- `ParityOK(w)`: the number of ones among all 32 bits is odd (R101, R177). -/
def parityOK (w : Word) : Bool := popcount w % 2 == 1

/-- The parity bit of a word whose bit 31 is 0: 1 exactly when its ones are even in number (R101, R105). -/
def parityBit (w : Word) : Bool := popcount w % 2 == 0

/-- `LISTEN`, `READ` or `WRITE` (R13). -/
def Mode.active : Mode → Bool
  | .listen => true
  | .read => true
  | .write => true
  | .idle => false
  | .received => false
  | .sent => false
  | .errorProtocol => false
  | .errorTimeout => false
  | .errorTimer => false

/-- `RECEIVED`, `SENT` or an error mode (R13). -/
def Mode.terminal : Mode → Bool
  | .received => true
  | .sent => true
  | .errorProtocol => true
  | .errorTimeout => true
  | .errorTimer => true
  | .idle => false
  | .listen => false
  | .read => false
  | .write => false

/-- The transceiver accepts `LISTEN` and `SEND` (R142 (b)). -/
def Transceiver.available (x : Transceiver) : Bool := x.inited && !x.initFailed

/-- `capture[0]`, the previous sample (R173). -/
def lastSample (capture : BitVec 16) : Bool := capture.getLsbD 0

/-- `capture > CAP_FULL`: at least a full bit period since the last edge (R173). -/
def isFull (capture : BitVec 16) : Bool := decide (capFull < capture)

/-- `capture > CAP_STALL`: no change for too long (R178). -/
def isStalled (capture : BitVec 16) : Bool := decide (capStall < capture)

/-- The edge age, the number of sample bits below the marker (R173); 0 where there is no marker (DESIGN CHOICE, log 18). -/
def edgeAge (capture : BitVec 16) : Nat := Nat.log2 capture.toNat

/-- The four cases of R174. -/
inductive EdgeCase where
  /-- Case A: a mid-bit transition was due but the level held a full bit period. -/
  | missing
  /-- Case B: the expected mid-bit transition. -/
  | midBit
  /-- Case C: the mid-bit transition of a cell that differs from the one before. -/
  | midBitAfterFull
  /-- Case D: the boundary edge between two equal bits. -/
  | boundary
  deriving DecidableEq, Repr

/-- The classification of an edge by the clock phase and its age (R174). -/
def edgeCase (clock full : Bool) : EdgeCase :=
  match clock, full with
  | true, true => .missing
  | true, false => .midBit
  | false, true => .midBitAfterFull
  | false, false => .boundary

/-- `elapsed(t) = (now - t) mod 2^32` (R233). -/
def elapsed (now t : Millis) : Millis := now - t

/-- The 100 ms gap after the last conversation has not elapsed (R231). -/
def gapPending (now : Millis) (c : Scheduler) : Bool :=
  c.convEndValid && decide (elapsed now c.convEnd < minGapMs)

/-- The duration of the previous conversation (R231). -/
def lastDuration (c : Scheduler) : Millis := c.convEnd - c.convStart

/-- The previous conversation exceeded its budget (R231, R284). -/
def budgetExceeded (c : Scheduler) : Bool :=
  c.convStartValid && c.convEndValid && decide (maxConvMs < lastDuration c)

/-- The synchronous ceiling has been passed (R232, R285). -/
def ceilingPassed (now : Millis) (c : Scheduler) : Bool :=
  c.cfgSync && c.convStartValid && decide (maxConvMs < elapsed now c.convStart)

end Sys2Proof.Machine
end

