-- ==== Sys2Proof/Machine/Operands.lean ====
section
/-! DEFINITION. The operands and results of the operations as bits: the numeric codes of the enumerations (R111 to R113, R30,
R36), the frame (R100 to R106), the response words (R118), and the request the scheduler builds (R222, R223). -/

namespace Sys2Proof.Machine

/-- The mode codes of R111. -/
def Mode.code : Mode → BitVec 4
  | .idle => 0
  | .listen => 1
  | .read => 2
  | .received => 3
  | .write => 4
  | .sent => 5
  | .errorProtocol => 8
  | .errorTimeout => 9
  | .errorTimer => 10

/-- The protocol error codes of R112. -/
def ProtocolError.code : ProtocolError → BitVec 3
  | .noError => 0
  | .noTransition => 1
  | .invalidStopBit => 2
  | .parityError => 3
  | .noChangeTooLong => 4

/-- The timer error codes of R113. -/
def TimerError.code : TimerError → BitVec 2
  | .none => 0
  | .arm => 1
  | .disarm => 2

/-- The timer rate codes of R30. -/
def Rate.code : Rate → BitVec 1
  | .rx => 0
  | .tx => 1

/-- The phase codes of R36. -/
def Phase.code : Phase → BitVec 1
  | .initial => 0
  | .repeating => 1

/-- A sample or bit shifted in at bit 0 (R175, R179). -/
def shiftIn {n : Nat} (w : BitVec n) (b : Bool) : BitVec n := (w <<< 1) ||| (BitVec.ofBool b).setWidth n

/-- R105's `w30`: the frame word before its parity bit. -/
def Frame.payload (f : Frame) : Word :=
  place 32 28 f.ty ||| place 32 16 f.id ||| place 32 8 f.hb ||| place 32 0 f.lb

/-- `PackFrame(type, id, hb, lb)` (R105). -/
def Frame.pack (f : Frame) : Word :=
  place 32 31 (BitVec.ofBool (parityBit f.payload)) ||| f.payload

/-- `Unpack(w)` (R106): the parity bit and the spare bits are dropped. -/
def Frame.unpack (w : Word) : Frame where
  ty := w.extractLsb' 28 3
  id := w.extractLsb' 16 8
  hb := w.extractLsb' 8 8
  lb := w.extractLsb' 0 8

/-- The all-zero frame that answers a configuration defect (R222). -/
def Frame.zero : Frame := ⟨0, 0, 0, 0⟩

/-- The bit slot `p` of a frame on the wire sends: start bit 33 and stop bit 0 are logical 1, slot `p` in 1..32 sends
`data[p - 1]` (R201). There is no other slot. -/
def slotBit (data : Word) (pos : BitVec 6) : Option Bool :=
  if pos = lastSlot ∨ pos = 0 then some true
  else if pos.toNat ≤ frameBits then some (data.getLsbD (pos.toNat - 1))
  else none

/-- The response word of `GET_MESSAGE` (R118): `{0, type, 0000, id, hb, lb}`. -/
def messageWord (data : Word) : Word :=
  place 32 28 (data.extractLsb' 28 3) ||| place 32 16 (data.extractLsb' 16 8) ||| place 32 8 (data.extractLsb' 8 8) |||
    place 32 0 (data.extractLsb' 0 8)

/-- The response word of `GET_PROTOCOL_ERROR` (R116): `{err[2:0], bit_pos[5:0], clock, capture[15:0]}`. -/
def errorWord (x : Transceiver) : BitVec 26 :=
  place 26 23 x.err.code ||| place 26 17 x.bitPos ||| place 26 16 (BitVec.ofBool x.clock) ||| place 26 0 x.capture

/-- Which handler is registered for an identifier (R43). -/
inductive Role where
  | writeHandler | readHandler | noHandler
  deriving DecidableEq, Repr

/-- `role(id)`: the write handler wins when both exist (R43). -/
def Env.role (e : Env) (id : Ident) : Role :=
  if (e.writeHandlers.lookup id).isSome then .writeHandler
  else if id ∈ e.readHandlers then .readHandler
  else .noHandler

/-- `wvalue(id)`; read only where `role(id) = WRITE_H` (R43, R222). Elsewhere it is 0 (DESIGN CHOICE, log 2). -/
def Env.wvalue (e : Env) (id : Ident) : BitVec 16 := (e.writeHandlers.lookup id).getD 0

/-- Status flag `k` (R223): both gates, and for central heating (`k = 0`) a positive setpoint as well. -/
def Env.statusFlag (e : Env) (k : Nat) : Bool :=
  e.stLocal.getLsbD k && e.stRead.getLsbD k && (k != 0 || e.chSetpointPositive)

/-- `StatusByte()` (R121, R223): bit `k` is flag `k`, bit 7 is 0. -/
def Env.statusByte (e : Env) : Byte :=
  place 8 6 (BitVec.ofBool (e.statusFlag 6)) ||| place 8 5 (BitVec.ofBool (e.statusFlag 5)) |||
    place 8 4 (BitVec.ofBool (e.statusFlag 4)) ||| place 8 3 (BitVec.ofBool (e.statusFlag 3)) |||
    place 8 2 (BitVec.ofBool (e.statusFlag 2)) ||| place 8 1 (BitVec.ofBool (e.statusFlag 1)) |||
    place 8 0 (BitVec.ofBool (e.statusFlag 0))

/-- `BUILD_REQUEST(id)` (R222): the frame, and the events it emits. -/
def Env.buildRequest (e : Env) (id : Ident) : Frame × List Event :=
  if id = statusId then (⟨typeReadData, statusId, e.statusByte, 0⟩, [])
  else
    match e.role id with
    | .writeHandler => (⟨typeWriteData, id, (e.wvalue id).extractLsb' 8 8, (e.wvalue id).extractLsb' 0 8⟩, [])
    | .readHandler => (⟨typeReadData, id, 0, 0⟩, [])
    | .noHandler => (.zero, [.cfgDefect id])

/-- `hook_pre_send` (R224, R238). -/
def Env.preSend (e : Env) (f : Frame) : Frame := e.hookPreSend.getD f

/-- `hook_pre_process` (R227, R238). -/
def Env.preProcess (e : Env) (f : Frame) : Frame := e.hookPreProcess.getD f

/-- `ev_request(id, type, hb, lb)` (R44). -/
def Frame.requestEvent (f : Frame) : Event := .request f.id f.ty f.hb f.lb

/-- `ev_response(type, id, hb, lb)` (R44). -/
def Frame.responseEvent (f : Frame) : Event := .response f.ty f.id f.hb f.lb

/-- The level of the output pin at its `k`-th observation: `line_out` once `INIT` has configured the pin, and a free value
before that (R29, U1). -/
def State.outputLevel (s : State) (k : Nat) : Bool :=
  if s.tx.inited then s.tx.lineOut else Config.unconfiguredLevel k

end Sys2Proof.Machine
end

