-- ==== Sys2Proof/Machine/Ops.lean ====
section
/-! DEFINITION. The named operations the meanings are written with: the timer primitives (R140, R141), the line primitive (R75),
entering an error mode (R180, R294) and leaving it (`STOP`, R148, R295), the commands that `LOOP` issues too (R144, R145), and
the model's outputs. -/

namespace Sys2Proof.Machine

/-- `TimerStop()` (R140), with the environment's draw `r`; no draw is made when the timer is already stopped. -/
def timerStop (r : TimerResult) (x : Transceiver) : Transceiver × TimerResult :=
  if x.timerRun then
    match r with
    | .ok => ({ x with timerRun := false }, .ok)
    | .fail => ({ x with terr := .disarm, mode := .errorTimer }, .fail)
  else (x, .ok)

/-- `TimerStart(rate)` (R141), with the environment's draw `r`. -/
def timerStart (rate : Rate) (r : TimerResult) (x : Transceiver) : Transceiver × TimerResult :=
  match r with
  | .ok => ({ x with timerRun := true, timerRate := rate }, .ok)
  | .fail => ({ x with terr := .arm, mode := .errorTimer }, .fail)

/-- `LineDrive(b)` (R75). -/
def lineDrive (b : Bool) (x : Transceiver) : Transceiver := { x with lineOut := b }

/-- An operation ends in mode `m` and the timer is stopped; a failed disarm replaces the mode by `ERROR_TIMER` (R292). -/
def finishIn (m : Mode) (r : TimerResult) (x : Transceiver) : Transceiver := (timerStop r { x with mode := m }).1

/-- `raise ProtocolError(t)` (R180, R294): the registers the failing tick found are left as they are. -/
def raiseProtocolError (t : ProtocolError) (r : TimerResult) (x : Transceiver) : Transceiver :=
  (timerStop r { x with mode := .errorProtocol, err := t }).1

/-- `STOP` on the transceiver record (R148): `IDLE` also over the `ERROR_TIMER` a failed disarm writes. -/
def stopTransceiver (r : TimerResult) (x : Transceiver) : Transceiver := { (timerStop r x).1 with mode := .idle }

/-- `LISTEN` on the transceiver record (R144), `timeoutMs` being `cfg_timeout_ms`. -/
def startListening (e : Env) (timeoutMs : Word) (x : Transceiver) : Transceiver :=
  match timerStop e.disarm x with
  | (x, .fail) => x
  | (x, .ok) =>
    (timerStart .rx e.arm
      { x with
        timeoutCnt := timeoutMs * BitVec.ofNat 32 rxTicksPerBit
        mode := .listen
        data := 0
        bitPos := 0
        capture := 0
        clock := false }).1

/-- `SEND` on the transceiver record (R145). -/
def startSending (e : Env) (f : Frame) (x : Transceiver) : Transceiver :=
  match timerStop e.disarm x with
  | (x, .fail) => x
  | (x, .ok) =>
    (timerStart .tx e.arm
      { x with
        data := f.pack
        clock := true
        bitPos := lastSlot
        mode := .write }).1

/-- The transceiver record replaced. -/
def State.withTx (s : State) (x : Transceiver) : State := { s with tx := x }

/-- The scheduler record replaced. -/
def State.withSched (s : State) (c : Scheduler) : State := { s with sched := c }

/-- The step begins: nothing has been put out yet. -/
def State.beginStep (s : State) : State := { s with out := .silent }

/-- `emit e` (R11, R44). -/
def State.emit (s : State) (es : List Event) : State := { s with out := { s.out with events := s.out.events ++ es } }

/-- The step's response (R118). -/
def State.respond (s : State) (r : Response) : State := { s with out := { s.out with response := r } }

/-- The command `LISTEN` with its precondition (R142 (b), R144). -/
def State.listen (s : State) : Result :=
  if s.tx.available then .next (s.withTx (startListening s.env s.sched.cfgTimeoutMs s.tx))
  else .refused .transceiverUnavailable

/-- The command `SEND` with its precondition (R142 (b), R145). -/
def State.send (s : State) (f : Frame) : Result :=
  if s.tx.available then .next (s.withTx (startSending s.env f s.tx))
  else .refused .transceiverUnavailable

/-- The command `STOP` (R148). -/
def State.stop (s : State) : State := s.withTx (stopTransceiver s.env.disarm s.tx)

/-- `StopConversation(now)` (R234): `STOP`, then the end timestamp. -/
def State.stopConversation (now : Millis) (s : State) : State :=
  s.stop.withSched { s.sched with convEnd := now, convEndValid := true }

end Sys2Proof.Machine
end

