-- ==== Sys2Proof/Machine/Commands.lean ====
section
/-! DEFINITION. The transceiver commands (40_transceiver_commands.md). -/

namespace Sys2Proof.Machine

/-- `INIT` (R143). No timer primitive is called: the failure is decided by the platform alone. -/
def execInit (s : State) : Result :=
  if s.tx.inited then .refused .alreadyInitialised
  else
    .next ((s.beginStep.withTx
      { lineDrive true s.tx with
        inited := true
        mode := .idle
        initFailed := s.tx.initFailed || !s.platform.timerAvailable }).respond (.ack s.platform.timerAvailable))

/-- `LISTEN` (R144). -/
def execListen (s : State) : Result := s.beginStep.listen

/-- `SEND` (R145). -/
def execSend (ty : BitVec 3) (id : Ident) (hb lb : Byte) (s : State) : Result := s.beginStep.send ⟨ty, id, hb, lb⟩

/-- `GET_MESSAGE` (R146, R118): no register is written in either case. -/
def execGetMessage (s : State) : Result :=
  .next (s.beginStep.respond
    (match s.tx.mode with
     | .received => .message true (messageWord s.tx.data)
     | _ => .message false 0))

/-- `GET_PROTOCOL_ERROR` (R147, R118): no register is written in either case. -/
def execGetProtocolError (s : State) : Result :=
  .next (s.beginStep.respond
    (match s.tx.mode with
     | .errorProtocol => .protocolError (some (errorWord s.tx))
     | _ => .protocolError none))

/-- `STOP` (R148): the result of its `TimerStop` is ignored. -/
def execStop (s : State) : Result := .next s.beginStep.stop

end Sys2Proof.Machine
end

