-- ==== Sys2Proof/Machine/Rotation.lean ====
section
/-! DEFINITION. The rotation (43_scheduler.md section 2): the two derived lists and the cursor. -/

namespace Sys2Proof.Machine

/-- The identifiers 0 to 255, ascending. -/
def allIdents : List Ident := (List.range 256).map (BitVec.ofNat 8)

/-- `order[i]` (R33, R84). -/
def Scheduler.orderOf (c : Scheduler) (i : Ident) : Byte := c.order[i.toNat]'i.isLt

/-- `configured[i]` (R33, R84). -/
def Scheduler.isConfigured (c : Scheduler) (i : Ident) : Bool := c.configured[i.toNat]'i.isLt

/-- `configured[id] <- 1; order[id] <- order` (R215). -/
def Scheduler.configure (c : Scheduler) (id : Ident) (order : Byte) : Scheduler :=
  { c with
    configured := c.configured.set id.toNat true id.isLt
    order := c.order.set id.toNat order id.isLt }

/-- `rank(i)` (R220). -/
def rankOf (p : Platform) (i : Ident) : Nat := p.rank[i.toNat]'i.isLt

/-- Configured for startup: `order[i] != 255` (R218). -/
def Scheduler.isStartup (c : Scheduler) (i : Ident) : Bool := c.isConfigured i && c.orderOf i != orderRepeating

/-- Configured to repeat: `order[i] = 255` (R219). -/
def Scheduler.isRepeating (c : Scheduler) (i : Ident) : Bool := c.isConfigured i && c.orderOf i == orderRepeating

/-- `i` does not come after `j` in the order by `(order, rank)` (R218). -/
abbrev startupLe (p : Platform) (c : Scheduler) (i j : Ident) : Prop :=
  c.orderOf i < c.orderOf j ∨ (c.orderOf i = c.orderOf j ∧ rankOf p i ≤ rankOf p j)

/-- `i` does not come after `j` in the order by `rank` (R219). -/
abbrev rankLe (p : Platform) (i j : Ident) : Prop := rankOf p i ≤ rankOf p j

/-- `DeriveInitial()` (R218). -/
def deriveInitial (p : Platform) (c : Scheduler) : List Ident :=
  (allIdents.filter c.isStartup).insertionSort (startupLe p c)

/-- `DeriveRepeating()` (R219). -/
def deriveRepeating (p : Platform) (c : Scheduler) : List Ident :=
  (allIdents.filter c.isRepeating).insertionSort (rankLe p)

/-- The active rotation list, `rot[0] .. rot[rot_len - 1]` (R34). -/
def Scheduler.rotList (c : Scheduler) : List Ident := c.rot.toList.take c.rotLen.toNat

/-- `(rot, rot_len) <- l` (R34, R217, R221): the list is written as a whole; past its end `rot` holds what `rest` holds (U4). -/
def Scheduler.writeRot (l : List Ident) (rest : Vector Ident 256) (c : Scheduler) : Scheduler :=
  { c with
    rot := rest.mapIdx fun k r => (l[k]?).getD r
    rotLen := BitVec.ofNat 9 l.length }

/-- The list, the cursor and the phase that `SETUP` derives (R217). -/
def Scheduler.startRotation (p : Platform) (rest : Vector Ident 256) (c : Scheduler) : Scheduler :=
  match deriveInitial p c with
  | [] => { c.writeRot (deriveRepeating p c) rest with cursor := 0, phase := .repeating }
  | i :: is => { c.writeRot (i :: is) rest with cursor := 0, phase := .initial }

/-- `AdvanceCursor` (R221). -/
def Scheduler.advanceCursor (p : Platform) (rest : Vector Ident 256) (c : Scheduler) : Scheduler :=
  if c.cursor.toNat + 1 = c.rotLen.toNat then
    { c.writeRot (deriveRepeating p c) rest with phase := .repeating, cursor := 0 }
  else { c with cursor := c.cursor + 1 }

/-- The identifier the next conversation requests, `rot[cursor]` (R35); none when R84's precondition `cursor < rot_len` fails. -/
def Scheduler.current (c : Scheduler) : Option Ident :=
  if c.cursor.toNat < c.rotLen.toNat then some (c.rot[c.cursor.toNat]'c.cursor.isLt) else none

end Sys2Proof.Machine
end

