-- ==== Sys2Proof/Machine/Conversation.lean ====
section
/-! DEFINITION. The scheduler's operations: configuration, setup, and the main-loop step (43_scheduler.md). -/

namespace Sys2Proof.Machine

/-- `CFG_MSG(id, order)` (R215). -/
def execCfgMsg (id : Ident) (order : Byte) (s : State) : Result :=
  if s.sched.setupDone then .refused .configurationFrozen
  else .next (s.beginStep.withSched (s.sched.configure id order))

/-- `CFG_CTRL(sync, timeout_ms)` (R216). -/
def execCfgCtrl (sync : Bool) (timeoutMs : BitVec 30) (s : State) : Result :=
  if s.sched.setupDone then .refused .configurationFrozen
  else if maxTimeoutMs < timeoutMs.toNat then .refused (.illegalWord .timeoutOutOfRange)
  else .next (s.beginStep.withSched { s.sched with cfgSync := sync, cfgTimeoutMs := timeoutMs.setWidth 32 })

/-- `SETUP` (R217). -/
def execSetup (s : State) : Result :=
  if s.sched.setupDone then .refused .alreadySetUp
  else if s.tx.inited = false then .refused .setupBeforeInit
  else if s.tx.initFailed then
    .next (((s.beginStep.withSched { s.sched with setupDone := true, failed := true }).emit [.setupFailed]).respond
      (.ack false))
  else
    .next ((s.beginStep.withSched { s.sched.startRotation s.platform s.env.rotRest with setupDone := true }).respond (.ack true))

/-- `START_CONVERSATION(now)` for the identifier under the cursor (R224). -/
def State.startConversation (now : Millis) (id0 : Ident) (s : State) : Result :=
  let request := s.env.buildRequest id0
  let f := s.env.preSend request.1
  State.send
    ((s.withSched { s.sched with convStart := now, convStartValid := true }).emit (request.2 ++ [f.requestEvent])) f

/-- `LOOP` on `RECEIVED` (R227). -/
def State.loopReceived (now : Millis) (s : State) : State :=
  let f := s.env.preProcess (Frame.unpack s.tx.data)
  State.stopConversation now ((s.emit [f.responseEvent]).withSched (s.sched.advanceCursor s.platform s.env.rotRest))

/-- `LOOP` on `ERROR_PROTOCOL` (R228). -/
def State.loopProtocolError (now : Millis) (s : State) : State :=
  State.stopConversation now (s.emit [.protocolError s.tx.err s.tx.bitPos s.tx.capture s.tx.clock])

/-- `LOOP` on `ERROR_TIMEOUT` (R229), and the abort of the synchronous ceiling (R232). -/
def State.loopTimeout (now : Millis) (s : State) : State := State.stopConversation now (s.emit [.timeout])

/-- `LOOP` on `ERROR_TIMER` (R230): the component is permanently failed. -/
def State.loopTimerError (now : Millis) (s : State) : State :=
  let t := State.stopConversation now (s.emit [.timerFatal s.tx.terr])
  t.withSched { t.sched with failed := true }

/-- `LOOP` on `IDLE` (R231). -/
def State.loopIdle (now : Millis) (s : State) : Result :=
  if gapPending now s.sched then .next s
  else if s.sched.rotLen = 0 then .next s
  else
    match s.sched.current with
    | none => .fault .rotationEntryAbsent
    | some id0 =>
      State.startConversation now id0
        (s.emit (if budgetExceeded s.sched then [.budgetWarning (lastDuration s.sched)] else []))

/-- `LOOP` on an active mode (R232). -/
def State.loopActive (now : Millis) (s : State) : State :=
  if ceilingPassed now s.sched then s.loopTimeout now else s

/-- `LOOP(now)` (R225). -/
def execLoop (now : Millis) (s : State) : Result :=
  let s := s.beginStep
  if s.sched.setupDone = false then .refused .loopBeforeSetup
  else if s.sched.failed then .next s
  else
    match s.tx.mode with
    | .sent => s.listen
    | .received => .next (s.loopReceived now)
    | .errorProtocol => .next (s.loopProtocolError now)
    | .errorTimeout => .next (s.loopTimeout now)
    | .errorTimer => .next (s.loopTimerError now)
    | .idle => s.loopIdle now
    | .listen => .next (s.loopActive now)
    | .read => .next (s.loopActive now)
    | .write => .next (s.loopActive now)

end Sys2Proof.Machine
end

