-- ==== Sys2Proof/Machine/Tick.lean ====
section
/-! DEFINITION. The timer tick: the decoder (41_manchester_decode.md) and the encoder (42_manchester_encode.md). `r` is the draw
of the step's `TimerStop`. -/

namespace Sys2Proof.Machine

/-- `TickListen(v)` (R171): the timeout is tested before the sample. -/
def tickListen (v : Bool) (r : TimerResult) (x : Transceiver) : Transceiver :=
  if x.timeoutCnt = 0 then finishIn .errorTimeout r x
  else if v then
    { x with
      data := 0
      bitPos := 0
      capture := 1
      clock := true
      mode := .read
      timeoutCnt := x.timeoutCnt - 1 }
  else { x with timeoutCnt := x.timeoutCnt - 1 }

/-- The last line of `TickRead`: append this sample (R179). -/
def appendSample (v : Bool) (x : Transceiver) : Transceiver := { x with capture := shiftIn x.capture v }

/-- The stop bit (R176), `last` being the level of its first half. -/
def stopBit (last : Bool) (r : TimerResult) (x : Transceiver) : Transceiver :=
  if last = false then raiseProtocolError .invalidStopBit r x
  else if parityOK x.data = false then raiseProtocolError .parityError r x
  else finishIn .received r x

/-- A data point (R175, R176): the bit is the level before the transition. `bit_pos + 1` is taken modulo 2^6, which matters only
past 33, where the spec has no state (DESIGN CHOICE, log 18). -/
def dataPoint (v last : Bool) (r : TimerResult) (x : Transceiver) : Transceiver :=
  if x.bitPos = lastSlot then stopBit last r x
  else
    appendSample v
      { x with
        data := shiftIn x.data last
        bitPos := x.bitPos + 1
        clock := false
        capture := 1 }

/-- `TickRead(v)` (R172): one sample of the frame. -/
def tickRead (v : Bool) (r : TimerResult) (x : Transceiver) : Transceiver :=
  if v != lastSample x.capture then
    match edgeCase x.clock (isFull x.capture) with
    | .missing => raiseProtocolError .noTransition r x
    | .midBit => dataPoint v (lastSample x.capture) r x
    | .midBitAfterFull => dataPoint v (lastSample x.capture) r x
    | .boundary => appendSample v { x with clock := true, capture := 1 }
  else if isStalled x.capture then raiseProtocolError .noChangeTooLong r x
  else appendSample v x

/-- `TickWrite()` (R200 to R203): one half-slot of the slot whose bit is `b`. -/
def tickWrite (b : Bool) (r : TimerResult) (x : Transceiver) : Transceiver :=
  if x.clock then { lineDrive (!b) x with clock := false }
  else if x.bitPos = 0 then finishIn .sent r { lineDrive b x with clock := true }
  else { lineDrive b x with clock := true, bitPos := x.bitPos - 1 }

/-- `TICK(v)` (R170). With `timer_run = 0` there is no tick: one that is presented all the same is discarded (log 8). -/
def execTick (v : Bool) (s : State) : Result :=
  let s := s.beginStep
  if s.tx.timerRun then
    match s.tx.mode with
    | .listen => .next (s.withTx (tickListen v s.env.disarm s.tx))
    | .read => .next (s.withTx (tickRead v s.env.disarm s.tx))
    | .write =>
      match slotBit s.tx.data s.tx.bitPos with
      | some b => .next (s.withTx (tickWrite b s.env.disarm s.tx))
      | none => .fault .frameSlotAbsent
    | .idle => .next s
    | .received => .next s
    | .sent => .next s
    | .errorProtocol => .next s
    | .errorTimeout => .next s
    | .errorTimer => .next s
  else .next s

end Sys2Proof.Machine
end

