-- ==== Sys2Proof/Machine/Dispatch.lean ====
section
/-! DEFINITION. The dispatch of an operation to its meaning. -/

namespace Sys2Proof.Machine

/-- One step of the block: the meaning of the operation, in the environment `s.env`. -/
def exec (i : Instr) (s : State) : Host.Outcome State Fault Refusal :=
  match i with
  | .init => Sys2Proof.Machine.execInit s
  | .listen => Sys2Proof.Machine.execListen s
  | .send ty id hb lb => Sys2Proof.Machine.execSend ty id hb lb s
  | .getMessage => Sys2Proof.Machine.execGetMessage s
  | .getProtocolError => Sys2Proof.Machine.execGetProtocolError s
  | .stop => Sys2Proof.Machine.execStop s
  | .tick v => Sys2Proof.Machine.execTick v s
  | .cfgMsg id order => Sys2Proof.Machine.execCfgMsg id order s
  | .cfgCtrl sync timeoutMs => Sys2Proof.Machine.execCfgCtrl sync timeoutMs s
  | .setup => Sys2Proof.Machine.execSetup s
  | .loop now => Sys2Proof.Machine.execLoop now s

end Sys2Proof.Machine
end

