-- ==== Sys2Proof/Machine/Step.lean ====
section
/-! DEFINITION. One step of the model: the next entry of the command port, decoded and run. -/

namespace Sys2Proof.Machine

/-- With nothing at the port no agent moves and nothing is put out (R306); otherwise the first entry's word is decoded and run
in that entry's environment (R6, R115). -/
def step (s : State) : Host.Outcome State Fault Refusal :=
  match s.port with
  | [] => .next s.beginStep
  | p :: rest =>
    match decode p.word with
    | .ok i => exec i { s with port := rest, env := p.env }
    | .error why => .refused (.illegalWord why)

/-- The command word `w` presented at the port, so that the next step takes it, in the environment the state already has. -/
def State.withFetchWord (s : State) (_nbits w : Nat) : State :=
  { s with port := ⟨BitVec.ofNat 36 w, s.env⟩ :: s.port }

end Sys2Proof.Machine
end

