-- ==== Sys2Proof/Machine/DataValue.lean ====
section
/-! DEFINITION. The interpretations of the 16-bit data value (44_data_values.md): pure functions, no state, no command. `EncF88`
of a real number is the relation `EncodesF88`; `encF88` evaluates it where the number is rational (log 9). -/

namespace Sys2Proof.Machine

/-- `raw16 = {hb, lb}` (R260). -/
def raw16 (hb lb : Byte) : BitVec 16 := place 16 8 hb ||| place 16 0 lb

/-- `Bytes(hb, lb)`: two independent bytes (R261). -/
def bytesOf (hb lb : Byte) : Nat × Nat := (hb.toNat, lb.toNat)

/-- `Flag(x, k)`, `0 <= k <= 7` (R262). -/
def flagOf (x : Byte) (k : Fin 8) : Bool := x.getLsbD k.val

/-- `U16(hb, lb)` (R263). -/
def u16 (hb lb : Byte) : Nat := (raw16 hb lb).toNat

/-- The inverse of `U16`; refused outside 0..65535 (R263, R267). -/
def u16Inverse (n : Int) : Option (Byte × Byte) :=
  if 0 ≤ n ∧ n ≤ 65535 then some (BitVec.ofInt 8 (n / 256), BitVec.ofInt 8 (n % 256)) else none

/-- `S16(hb, lb)` (R264). -/
def s16 (hb lb : Byte) : Int := if u16 hb lb < 32768 then (u16 hb lb : Int) else (u16 hb lb : Int) - 65536

/-- The inverse of `S16`; refused outside -32768..32767 (R264, R267). -/
def s16Inverse (n : Int) : Option (Byte × Byte) :=
  if -32768 ≤ n ∧ n ≤ 32767 then u16Inverse (n % 65536) else none

/-- `F88(hb, lb)` (R265). -/
def f88 (hb lb : Byte) : Rat := (s16 hb lb : Rat) / 256

/-- `n = trunc(x)`, rounding a real number toward zero (R266). -/
def IsTrunc (x : ℝ) (n : Int) : Prop :=
  (0 ≤ x → (n : ℝ) ≤ x ∧ x < n + 1) ∧ (x < 0 → x ≤ n ∧ (n : ℝ) - 1 < x)

/-- `EncF88(v) = w` for a real `v`; no `w` where `v` is out of range, for there the value is refused (R266, R267). -/
def EncodesF88 (v : ℝ) (w : BitVec 16) : Prop :=
  -128 ≤ v ∧ v < 128 ∧ ∃ n : Int, IsTrunc (v * 256) n ∧ w = BitVec.ofInt 16 n

/-- `trunc` of a rational number. -/
def truncToZero (q : Rat) : Int := q.num.tdiv q.den

/-- `EncF88(v)` of a rational `v` as its 16 bits; refused unless `-128 <= v < 128` (R266, R267). -/
def encF88 (v : Rat) : Option (BitVec 16) :=
  if -128 ≤ v ∧ v < 128 then some (BitVec.ofInt 16 (truncToZero (v * 256))) else none

/-- The positive-setpoint input of a host that holds its setpoint as an 8.8 value (R268). -/
def setpointPositive (hb lb : Byte) : Bool := decide (0 < s16 hb lb)

end Sys2Proof.Machine
end

