-- ==== Sys2Proof/Safety.lean ====
section
/-! DEFINITION. The terms claims are made in: the invariant of the reachable states (R45), the mode table (R149), runs of ticks,
and the wire format a run of ticks is compared with (R107 to R109). -/

namespace Sys2Proof.Machine

/-- The invariant of the transceiver record (R45 (a) to (e) and what the terminal modes stand for, R111). -/
structure TxInv (x : Transceiver) : Prop where
  /-- R45 (b). -/
  bitPos_le : x.bitPos.toNat ≤ 33
  /-- R45 (c). -/
  read_capture : x.mode = .read → 1 ≤ x.capture.toNat ∧ x.capture.toNat ≤ 0x1FF
  /-- R45 (e), first half: with no timer failure recorded the timer runs exactly in the active modes. -/
  timer_iff_active : x.terr = .none → (x.timerRun = true ↔ x.mode.active = true)
  /-- R45 (e), second half. -/
  rate_iff_write : x.terr = .none → x.mode.active = true → (x.timerRate = .tx ↔ x.mode = .write)
  /-- Before a successful `INIT` nothing has started the timer. -/
  unavailable_idle : x.available = false → x.mode = .idle ∧ x.timerRun = false
  /-- `init_failed` is written by `INIT` only. -/
  failed_inited : x.initFailed = true → x.inited = true
  /-- R203, R45 (f): after a completed transmission the line is at its idle level. -/
  sent_line : x.mode = .sent → x.lineOut = true ∧ x.bitPos = 0 ∧ x.clock = true
  /-- R111: `RECEIVED` means a whole frame with good parity is in `data`. -/
  received_frame : x.mode = .received → x.bitPos = 33 ∧ parityOK x.data = true
  /-- R112: `ERROR_PROTOCOL` has a cause in `err`. -/
  protocol_cause : x.mode = .errorProtocol → x.err ≠ .noError
  /-- R280. -/
  timeout_zero : x.mode = .errorTimeout → x.timeoutCnt = 0
  /-- R113: `ERROR_TIMER` has a cause in `terr`. -/
  timer_cause : x.mode = .errorTimer → x.terr ≠ .none

/-- The invariant of the scheduler record (R34, R41, R45 (g)). -/
structure SchedInv (c : Scheduler) : Prop where
  /-- R34: `rot_len` is 0 to 256. -/
  rotLen_le : c.rotLen.toNat ≤ 256
  /-- R34: an identifier occurs at most once. -/
  rot_nodup : c.rotList.Nodup
  /-- Every identifier of the list is configured (R218, R219). -/
  rot_configured : ∀ i ∈ c.rotList, c.isConfigured i = true
  /-- R45 (g). -/
  cursor_lt : c.rotLen ≠ 0 → c.cursor.toNat < c.rotLen.toNat
  /-- R41. -/
  timeout_le : c.cfgTimeoutMs.toNat ≤ maxTimeoutMs

/-- The invariant of the state (R45), with the boot order R317 enforces by refusing. -/
structure BlockInv (s : State) : Prop where
  tx : TxInv s.tx
  sched : SchedInv s.sched
  /-- `SETUP` only after `INIT` (R217). -/
  setup_inited : s.sched.setupDone = true → s.tx.inited = true
  /-- A setup failure leaves the component failed (R217, R282). -/
  setup_failed : s.sched.setupDone = true → s.tx.initFailed = true → s.sched.failed = true

/-- The state a result holds, if it is a next state. -/
def stateOf : Result → Option State
  | .next s => some s
  | .fault _ => none
  | .refused _ => none

/-- The record `x` of a tick that ends its operation in mode `m` while the timer runs: the timer is stopped, or the disarm fails
and `ERROR_TIMER` replaces the mode (R140, R292). -/
def State.endedIn (s : State) (m : Mode) (x : Transceiver) : Transceiver :=
  match s.env.disarm with
  | .ok => { x with mode := m, timerRun := false }
  | .fail => { x with mode := .errorTimer, terr := .disarm }

/-- The record `STOP` leaves (R140, R148): `IDLE`, with the timer stopped unless a running timer's disarm failed. -/
def State.stoppedTx (s : State) : Transceiver :=
  match s.tx.timerRun, s.env.disarm with
  | false, _ => { s.tx with mode := .idle }
  | true, .ok => { s.tx with mode := .idle, timerRun := false }
  | true, .fail => { s.tx with mode := .idle, terr := .disarm }

/-- A `TimerStop` in this step returns `ok` (R140). -/
abbrev State.DisarmObeys (s : State) : Prop := s.tx.timerRun = false ∨ s.env.disarm = .ok

/-- `TICK`s one after another, each with its sample and its own environment. -/
def runTicks : List (Bool × Env) → State → Result
  | [], s => .next s
  | (v, e) :: ts, s =>
    match exec (.tick v) { s with env := e } with
    | .next t => runTicks ts t
    | .fault r => .fault r
    | .refused r => .refused r

/-- The level of `line_out` after each of those ticks. -/
def lineTrace : List (Bool × Env) → State → List Bool
  | [], _ => []
  | (v, e) :: ts, s =>
    match exec (.tick v) { s with env := e } with
    | .next t => t.tx.lineOut :: lineTrace ts t
    | .fault _ => []
    | .refused _ => []

/-- The timer obeys in every one of those ticks (PR1). -/
def DisarmOk (ts : List (Bool × Env)) : Prop := ∀ t ∈ ts, t.2.disarm = .ok

/-- The bits of a frame on the wire in order of time: start bit, frame bits 31 down to 0, stop bit (R107). -/
def wireBits (w : Word) : List Bool := true :: ((List.range 32).map fun i => w.getLsbD (31 - i)) ++ [true]

/-- The 68 levels of the output pin: first half `NOT b`, second half `b` (R108, R204). -/
def wireLevels (w : Word) : List Bool := (wireBits w).flatMap fun b => [!b, b]

/-- Levels presented to a sampler, held alternately for `a` and `b` samples. -/
def holdFor (a b : Nat) : List Bool → List Bool
  | x :: y :: rest => List.replicate a x ++ List.replicate b y ++ holdFor a b rest
  | [x] => List.replicate a x
  | [] => []

/-- The samples a decoder sees of the levels `ls` through the inverter of R72 (c): `lead` idle samples, each level inverted
and held, and `tail` idle samples (R182). -/
def receivedSamples (a b lead tail : Nat) (ls : List Bool) : List Bool :=
  List.replicate lead false ++ holdFor a b (ls.map not) ++ List.replicate tail false

/-- The identifiers requested by conversations that all end in `RECEIVED` (R237), one for each entry of the first list, which
holds what each of their `LOOP`s may leave past the rotation list (U4). -/
def requestSequence (p : Platform) : List (Vector Ident 256) → Scheduler → List (Option Ident)
  | [], _ => []
  | rest :: rests, c => c.current :: requestSequence p rests (c.advanceCursor p rest)

/-- R45 (f), `cut` standing for the history it speaks of: the last `WRITE` was cut short. -/
def LineIdle (cut : Bool) (x : Transceiver) : Prop :=
  x.inited = true → x.mode ≠ .write → cut = false → x.lineOut = true

/-- That history after a step from `x` to `y`: a `WRITE` that is left other than for `SENT` was cut short, one that runs to `SENT`
was not, and no other step says anything. -/
def cutAfter (cut : Bool) (x y : Transceiver) : Bool :=
  if x.mode = .write ∧ y.mode ≠ .write then y.mode != .sent else cut

/-- The modes each operation may leave, from the table of R149, extended by `INIT` (R143), by the operations that do not touch
`mode` (R215 to R217), and by `LOOP`'s cases (R226 to R232). -/
def allowedModes : Instr → Mode → List Mode
  | .init, _ => [.idle]
  | .listen, _ => [.listen, .errorTimer]
  | .send _ _ _ _, _ => [.write, .errorTimer]
  | .getMessage, m => [m]
  | .getProtocolError, m => [m]
  | .stop, _ => [.idle]
  | .tick _, .listen => [.listen, .read, .errorTimeout, .errorTimer]
  | .tick _, .read => [.read, .received, .errorProtocol, .errorTimer]
  | .tick _, .write => [.write, .sent, .errorTimer]
  | .tick _, .idle => [.idle]
  | .tick _, .received => [.received]
  | .tick _, .sent => [.sent]
  | .tick _, .errorProtocol => [.errorProtocol]
  | .tick _, .errorTimeout => [.errorTimeout]
  | .tick _, .errorTimer => [.errorTimer]
  | .cfgMsg _ _, m => [m]
  | .cfgCtrl _ _, m => [m]
  | .setup, m => [m]
  | .loop _, .sent => [.sent, .listen, .errorTimer]
  | .loop _, .idle => [.idle, .write, .errorTimer]
  | .loop _, .received => [.received, .idle]
  | .loop _, .errorProtocol => [.errorProtocol, .idle]
  | .loop _, .errorTimeout => [.errorTimeout, .idle]
  | .loop _, .errorTimer => [.errorTimer, .idle]
  | .loop _, .listen => [.listen, .idle]
  | .loop _, .read => [.read, .idle]
  | .loop _, .write => [.write, .idle]

end Sys2Proof.Machine
end

