-- ==== Sys2Proof/Certificates/Slice0/Obligations.lean ====
section
/-! DEFINITION. The statements for the provers. A statement that gives the whole next state of an operation is its
result and its frame at once: every register it does not list is the one before the step. Where a rule is marked as
the spec's own decision (D<n> of 92_eei_decisions.md) the docstring says so. -/

open Sys2Proof Sys2Proof.Machine

/-! ### The command word -/

/-- R115, R116: no bit of an operation is lost between its term and its command word. -/
def Obligations.DecodeOfEncodeIsTheOperation : Prop :=
  ∀ i : Instr, i.wellFormed = true → decode (encode i) = .ok i

/-- R115, R116: a command word that is accepted is the word of the operation it selects, so no two words select one
operation, and only well-formed operations are selected. -/
def Obligations.AcceptedWordIsItsOperationsWord : Prop :=
  ∀ (w : CommandWord) (i : Instr), decode w = .ok i → encode i = w ∧ i.wellFormed = true

/-- The opcode table: a word is accepted exactly when a row has it (and `CFG_CTRL`'s timeout is in range), and then
the rows that have it are the row of the operation selected, and no other. -/
def Obligations.AcceptedWordsAreTheTablesRows : Prop :=
  ∀ w : CommandWord,
    ((∃ i, decode w = .ok i) ↔
      ∃ r ∈ opcodeTable, r.matches w = true ∧ (r.mnemonic = "CFG_CTRL" → (w.extractLsb' 0 30).toNat ≤ 858993459)) ∧
    ∀ i, decode w = .ok i → ∀ r ∈ opcodeTable, (r.matches w = true ↔ r.mnemonic = i.mnemonic)

/-- R117 (decision D3): the illegal command words, and what a step does with one. -/
def Obligations.IllegalCommandWordsAreRefused : Prop :=
  (∀ (s : State) (p : PortEntry) (rest : List PortEntry), s.port = p :: rest →
    (0xB ≤ (p.word.extractLsb' 32 4).toNat → step s = .refused (.illegalWord .unassignedOperation)) ∧
    ((p.word.extractLsb' 32 4).toNat ≤ 0xA → (∀ r ∈ opcodeTable, r.matches p.word = false) →
      step s = .refused (.illegalWord .reservedBitSet)) ∧
    (∀ r ∈ opcodeTable, r.matches p.word = true → r.mnemonic = "CFG_CTRL" →
      858993459 < (p.word.extractLsb' 0 30).toNat → step s = .refused (.illegalWord .timeoutOutOfRange))) ∧
  (∀ id order, ∃ w, decode w = .ok (.cfgMsg id order)) ∧
  (∀ v, ∃ w, decode w = .ok (.tick v))

/-- Words written out from 30_encoding.md and 95_test_vectors.md, one for every operation. -/
def Obligations.WordsOfTheSpecDecode : Prop :=
  decode 0x000000000 = .ok .init ∧
  decode 0x100000000 = .ok .listen ∧
  decode 0x240192D40 = .ok (.send 4 25 0x2D 0x40) ∧
  decode 0x300000000 = .ok .getMessage ∧
  decode 0x400000000 = .ok .getProtocolError ∧
  decode 0x500000000 = .ok .stop ∧
  decode 0x600000001 = .ok (.tick true) ∧
  decode 0x700000A02 = .ok (.cfgMsg 10 2) ∧
  decode 0x8800007D0 = .ok (.cfgCtrl true 2000) ∧
  decode 0x900000000 = .ok .setup ∧
  decode 0xA000003E8 = .ok (.loop 1000)

/-- R6: a step takes the next entry of the command port. The port, and what a step does with an empty one, are the
model's (log entry 1). -/
def Obligations.StepRunsTheDecodedCommand : Prop :=
  ∀ s : State,
    (s.port = [] → step s = .next { s with out := .silent }) ∧
    ∀ (p : PortEntry) (rest : List PortEntry), s.port = p :: rest →
      (∀ i, decode p.word = .ok i → step s = exec i { s with port := rest, env := p.env }) ∧
      (∀ why, decode p.word = .error why → step s = .refused (.illegalWord why))

/-! ### Reset and the invariant -/

/-- R47 (all but `mode` is decision D22): the value of every register after reset, on every platform. -/
def Obligations.ResetRegisterValues : Prop :=
  ∀ p : Platform,
    (State.resetOn p).tx =
      { mode := .idle, err := .noError, terr := .none, data := 0, bitPos := 0, capture := 0, clock := false,
        timeoutCnt := 0, lineOut := true, inited := false, initFailed := false, timerRun := false, timerRate := .rx } ∧
    (∀ i, (State.resetOn p).sched.isConfigured i = false ∧ (State.resetOn p).sched.orderOf i = 0) ∧
    (∀ k : Fin 256, (State.resetOn p).sched.rot[k] = 0) ∧ (State.resetOn p).sched.rotLen = 0 ∧
    (State.resetOn p).sched.cursor = 0 ∧ (State.resetOn p).sched.phase = .initial ∧
    (State.resetOn p).sched.convStart = 0 ∧ (State.resetOn p).sched.convStartValid = false ∧
    (State.resetOn p).sched.convEnd = 0 ∧ (State.resetOn p).sched.convEndValid = false ∧
    (State.resetOn p).sched.failed = false ∧ (State.resetOn p).sched.setupDone = false ∧
    (State.resetOn p).sched.cfgSync = false ∧ (State.resetOn p).sched.cfgTimeoutMs = 0

/-- R45 holds after reset, on every platform. -/
def Obligations.ResetMeetsTheInvariant : Prop := ∀ p : Platform, BlockInv (State.resetOn p)

/-- R45: every step keeps the invariant. -/
def Obligations.EveryStepKeepsTheInvariant : Prop := ∀ s t : State, BlockInv s → step s = .next t → BlockInv t

/-- No step of a state that meets the invariant reads an absent entry (the faults are the model's, log entry 6). -/
def Obligations.NoFaultWhereTheInvariantHolds : Prop := ∀ (s : State) (r : Fault), BlockInv s → step s ≠ .fault r

/-- The two faults (log entry 6): a slot no frame has, and a cursor past the rotation list. -/
def Obligations.AbsentEntriesFault : Prop :=
  (∀ (s : State) (v : Bool), s.tx.timerRun = true → s.tx.mode = .write → 33 < s.tx.bitPos.toNat →
    exec (.tick v) s = .fault .frameSlotAbsent) ∧
  (∀ (s : State) (now : Millis), s.sched.setupDone = true → s.sched.failed = false → s.tx.mode = .idle →
    (s.sched.convEndValid = true → 100 ≤ (now - s.sched.convEnd).toNat) → s.sched.rotLen ≠ 0 →
    s.sched.rotLen.toNat ≤ s.sched.cursor.toNat → exec (.loop now) s = .fault .rotationEntryAbsent)

/-! ### The frame -/

/-- R105 (parity sense: decision D15, R101; layout: R100): the fields of a packed frame, its spare bits and its parity
bit; and `SEND` packs the four fields itself. -/
def Obligations.PackedFrameLayout : Prop :=
  ∀ f : Frame,
    (∀ s t : State, s.DisarmObeys → exec (.send f.ty f.id f.hb f.lb) s = .next t → t.tx.data = f.pack) ∧
    f.pack.extractLsb' 28 3 = f.ty ∧ f.pack.extractLsb' 24 4 = 0 ∧ f.pack.extractLsb' 16 8 = f.id ∧
    f.pack.extractLsb' 8 8 = f.hb ∧ f.pack.extractLsb' 0 8 = f.lb ∧
    f.pack.getLsbD 31 = decide (popcount (f.pack &&& 0x7FFFFFFF) % 2 = 0)

/-- R106: unpacking gives the four fields back, and every packed frame has good parity. -/
def Obligations.UnpackOfPackIsTheFrame : Prop := ∀ f : Frame, Frame.unpack f.pack = f ∧ parityOK f.pack = true

/-! ### The timer primitives -/

/-- R140, R141 (decision D18): the two timer primitives, with and without a timer that obeys. -/
def Obligations.TimerPrimitiveOutcomes : Prop :=
  ∀ (x : Transceiver) (r : TimerResult) (rate : Rate),
    (x.timerRun = false → timerStop r x = (x, .ok)) ∧
    (x.timerRun = true → timerStop .ok x = ({ x with timerRun := false }, .ok)) ∧
    (x.timerRun = true → timerStop .fail x = ({ x with terr := .disarm, mode := .errorTimer }, .fail)) ∧
    timerStart rate .ok x = ({ x with timerRun := true, timerRate := rate }, .ok) ∧
    timerStart rate .fail x = ({ x with terr := .arm, mode := .errorTimer }, .fail)

/-! ### The transceiver commands -/

/-- R143 (decision D21 for the refusal): `INIT`, its answer, and that a second one is refused. -/
def Obligations.InitResult : Prop :=
  ∀ s : State,
    (s.tx.inited = false →
      exec .init s = .next
        { s with
          tx := { s.tx with
            lineOut := true
            inited := true
            mode := .idle
            initFailed := s.tx.initFailed || !s.platform.timerAvailable }
          out := ⟨.ack s.platform.timerAvailable, []⟩ }) ∧
    (s.tx.inited = true → exec .init s = .refused .alreadyInitialised)

/-- R144 (decision D12 for what is cleared): `LISTEN` in every mode, with its two timer failures. The product is that of
32-bit words: for a `cfg_timeout_ms` above 858993459, which R41 says is not legal, it is taken modulo 2^32, and that is
the model's own choice (log 17). -/
def Obligations.ListenResult : Prop :=
  ∀ s : State, s.tx.inited = true → s.tx.initFailed = false →
    (s.DisarmObeys → s.env.arm = .ok →
      exec .listen s = .next
        { s with
          tx := { s.tx with
            timeoutCnt := s.sched.cfgTimeoutMs * 5
            mode := .listen
            data := 0
            bitPos := 0
            capture := 0
            clock := false
            timerRun := true
            timerRate := .rx }
          out := .silent }) ∧
    (s.DisarmObeys → s.env.arm = .fail →
      exec .listen s = .next
        { s with
          tx := { s.tx with
            timeoutCnt := s.sched.cfgTimeoutMs * 5
            mode := .errorTimer
            terr := .arm
            data := 0
            bitPos := 0
            capture := 0
            clock := false
            timerRun := false }
          out := .silent }) ∧
    (¬ s.DisarmObeys →
      exec .listen s = .next
        { s with tx := { s.tx with mode := .errorTimer, terr := .disarm }, out := .silent })

/-- R145: `SEND` in every mode, with its two timer failures. -/
def Obligations.SendResult : Prop :=
  ∀ (s : State) (ty : BitVec 3) (id : Ident) (hb lb : Byte), s.tx.inited = true → s.tx.initFailed = false →
    (s.DisarmObeys → s.env.arm = .ok →
      exec (.send ty id hb lb) s = .next
        { s with
          tx := { s.tx with
            data := Frame.pack ⟨ty, id, hb, lb⟩
            clock := true
            bitPos := 33
            mode := .write
            timerRun := true
            timerRate := .tx }
          out := .silent }) ∧
    (s.DisarmObeys → s.env.arm = .fail →
      exec (.send ty id hb lb) s = .next
        { s with
          tx := { s.tx with
            data := Frame.pack ⟨ty, id, hb, lb⟩
            clock := true
            bitPos := 33
            mode := .errorTimer
            terr := .arm
            timerRun := false }
          out := .silent }) ∧
    (¬ s.DisarmObeys →
      exec (.send ty id hb lb) s = .next
        { s with tx := { s.tx with mode := .errorTimer, terr := .disarm }, out := .silent })

/-- R142 (b): before a successful `INIT`, `LISTEN` and `SEND` are refused, and the three other commands are accepted. A
`LOOP` whose step would be or contain such a command (R226, R224) is refused whole, which is the model's reading (log
13) and concerns only states that do not meet the invariant. -/
def Obligations.CommandsBeforeInit : Prop :=
  ∀ s : State, (s.tx.inited = false ∨ s.tx.initFailed = true) →
    exec .listen s = .refused .transceiverUnavailable ∧
    (∀ ty id hb lb, exec (.send ty id hb lb) s = .refused .transceiverUnavailable) ∧
    (∃ t, exec .getMessage s = .next t) ∧ (∃ t, exec .getProtocolError s = .next t) ∧ (∃ t, exec .stop s = .next t) ∧
    (∀ now : Millis, s.sched.setupDone = true → s.sched.failed = false →
      (s.tx.mode = .sent → exec (.loop now) s = .refused .transceiverUnavailable) ∧
      (s.tx.mode = .idle → (s.sched.convEndValid = true → 100 ≤ (now - s.sched.convEnd).toNat) →
        s.sched.cursor.toNat < s.sched.rotLen.toNat → exec (.loop now) s = .refused .transceiverUnavailable))

/-- R146 and R118 (formats: decision D20): `GET_MESSAGE` answers `{0, type, 0000, id, hb, lb}` in `RECEIVED`, 0 in
every other mode, and writes no register. -/
def Obligations.GetMessageResult : Prop :=
  ∀ s : State,
    (s.tx.mode = .received →
      exec .getMessage s = .next { s with out := ⟨.message true (s.tx.data &&& 0x70FFFFFF), []⟩ }) ∧
    (s.tx.mode ≠ .received → exec .getMessage s = .next { s with out := ⟨.message false 0, []⟩ })

/-- R147 and R116 (format: decision D20): `GET_PROTOCOL_ERROR` answers `{err, bit_pos, clock, capture}` in
`ERROR_PROTOCOL`, `ok = 0` in every other mode, and writes no register. -/
def Obligations.GetProtocolErrorResult : Prop :=
  ∀ s : State,
    (s.tx.mode = .errorProtocol →
      ∃ w : BitVec 26, exec .getProtocolError s = .next { s with out := ⟨.protocolError (some w), []⟩ } ∧
        w.extractLsb' 23 3 = s.tx.err.code ∧ w.extractLsb' 17 6 = s.tx.bitPos ∧
        w.getLsbD 16 = s.tx.clock ∧ w.extractLsb' 0 16 = s.tx.capture) ∧
    (s.tx.mode ≠ .errorProtocol →
      exec .getProtocolError s = .next { s with out := ⟨.protocolError none, []⟩ })

/-- R148: `STOP` from every mode; only `mode`, the timer and, on a failed disarm, `terr` change. -/
def Obligations.StopResult : Prop :=
  ∀ s : State,
    (s.tx.timerRun = false →
      exec .stop s = .next { s with tx := { s.tx with mode := .idle }, out := .silent }) ∧
    (s.tx.timerRun = true → s.env.disarm = .ok →
      exec .stop s = .next { s with tx := { s.tx with mode := .idle, timerRun := false }, out := .silent }) ∧
    (s.tx.timerRun = true → s.env.disarm = .fail →
      exec .stop s = .next { s with tx := { s.tx with mode := .idle, terr := .disarm }, out := .silent })

/-! ### The tick: the decoder -/

/-- R170 (decision D34): a tick in `IDLE` or a terminal mode does nothing. -/
def Obligations.TickOutsideTheActiveModes : Prop :=
  ∀ (s : State) (v : Bool), s.tx.timerRun = true →
    s.tx.mode ≠ .listen → s.tx.mode ≠ .read → s.tx.mode ≠ .write →
    exec (.tick v) s = .next { s with out := .silent }

/-- R45 (d), R170: with the timer stopped there is no tick. A tick that is presented all the same is discarded: that
it is a step which changes no register is the model's reading (log entry 8). -/
def Obligations.TickWithTheTimerStopped : Prop :=
  ∀ (s : State) (v : Bool), s.tx.timerRun = false → exec (.tick v) s = .next { s with out := .silent }

/-- R171 (corner cases: decision D12): the listening tick. The timeout is tested first. -/
def Obligations.TickListening : Prop :=
  ∀ (s : State) (v : Bool), s.tx.timerRun = true → s.tx.mode = .listen →
    (s.tx.timeoutCnt = 0 →
      exec (.tick v) s = .next { s with tx := s.endedIn .errorTimeout s.tx, out := .silent }) ∧
    (s.tx.timeoutCnt ≠ 0 → v = true →
      exec (.tick v) s = .next
        { s with
          tx := { s.tx with
            data := 0
            bitPos := 0
            capture := 1
            clock := true
            mode := .read
            timeoutCnt := BitVec.ofNat 32 (s.tx.timeoutCnt.toNat - 1) }
          out := .silent }) ∧
    (s.tx.timeoutCnt ≠ 0 → v = false →
      exec (.tick v) s = .next
        { s with
          tx := { s.tx with timeoutCnt := BitVec.ofNat 32 (s.tx.timeoutCnt.toNat - 1) }
          out := .silent })

/-- R174 cases B and C, R175 (decisions D11, D13): an edge that is a data point shifts the level before it into `data`.
Past `bit_pos` 33, where R45 (b) says no reachable state is, the 6-bit increment is the model's own choice (log 18). -/
def Obligations.TickReadsADataPoint : Prop :=
  ∀ (s : State) (v : Bool), s.tx.timerRun = true → s.tx.mode = .read →
    v ≠ s.tx.capture.getLsbD 0 →
    (s.tx.clock = true ∧ s.tx.capture.toNat ≤ 0xF ∨ s.tx.clock = false ∧ 0xF < s.tx.capture.toNat) →
    s.tx.bitPos ≠ 33 →
    exec (.tick v) s = .next
      { s with
        tx := { s.tx with
          data := BitVec.ofNat 32 (2 * s.tx.data.toNat + (s.tx.capture.getLsbD 0).toNat)
          bitPos := s.tx.bitPos + 1
          clock := false
          capture := BitVec.ofNat 16 (2 + v.toNat) }
        out := .silent }

/-- R174 cases A and D, R276, R180 (decisions D11, D13, D41): an edge that is no data point is the boundary edge
between two equal bits, or raises `NO_TRANSITION`. -/
def Obligations.TickReadsAnotherEdge : Prop :=
  ∀ (s : State) (v : Bool), s.tx.timerRun = true → s.tx.mode = .read → v ≠ s.tx.capture.getLsbD 0 →
    (s.tx.clock = false → s.tx.capture.toNat ≤ 0xF →
      exec (.tick v) s = .next
        { s with tx := { s.tx with clock := true, capture := BitVec.ofNat 16 (2 + v.toNat) }, out := .silent }) ∧
    (s.tx.clock = true → 0xF < s.tx.capture.toNat →
      exec (.tick v) s = .next
        { s with tx := s.endedIn .errorProtocol { s.tx with err := .noTransition }, out := .silent })

/-- R176, R177, R277, R278 (decision D14): the data point at `bit_pos = 33` is the stop bit; its level is tested
before the parity. -/
def Obligations.TickReadsTheStopBit : Prop :=
  ∀ (s : State) (v : Bool), s.tx.timerRun = true → s.tx.mode = .read →
    v ≠ s.tx.capture.getLsbD 0 →
    (s.tx.clock = true ∧ s.tx.capture.toNat ≤ 0xF ∨ s.tx.clock = false ∧ 0xF < s.tx.capture.toNat) →
    s.tx.bitPos = 33 →
    (s.tx.capture.getLsbD 0 = false →
      exec (.tick v) s = .next
        { s with tx := s.endedIn .errorProtocol { s.tx with err := .invalidStopBit }, out := .silent }) ∧
    (s.tx.capture.getLsbD 0 = true → popcount s.tx.data % 2 = 0 →
      exec (.tick v) s = .next
        { s with tx := s.endedIn .errorProtocol { s.tx with err := .parityError }, out := .silent }) ∧
    (s.tx.capture.getLsbD 0 = true → popcount s.tx.data % 2 = 1 →
      exec (.tick v) s = .next { s with tx := s.endedIn .received s.tx, out := .silent })

/-- R178, R179, R279 (decisions D10, D11): a tick without an edge appends its sample, or raises `NO_CHANGE_TOO_LONG`
after eight equal ones. -/
def Obligations.TickWithoutAnEdge : Prop :=
  ∀ (s : State) (v : Bool), s.tx.timerRun = true → s.tx.mode = .read → v = s.tx.capture.getLsbD 0 →
    (s.tx.capture.toNat ≤ 0xFF →
      exec (.tick v) s = .next
        { s with
          tx := { s.tx with capture := BitVec.ofNat 16 (2 * s.tx.capture.toNat + v.toNat) }
          out := .silent }) ∧
    (0xFF < s.tx.capture.toNat →
      exec (.tick v) s = .next
        { s with tx := s.endedIn .errorProtocol { s.tx with err := .noChangeTooLong }, out := .silent })

/-- R173, R178, R183 (decisions D10, D11): how a run of equal samples is read. After an edge the edge age counts the
samples at the new level, up to eight, and the run is a full bit period from the fourth on; the ninth equal sample
raises `NO_CHANGE_TOO_LONG`. After the start of the read phase one sample more is needed for each, since the high
sample that started it is not counted. -/
def Obligations.ARunOfSamplesIsReadByItsLength : Prop :=
  ∀ (s : State) (v : Bool) (n first : Nat) (ts : List (Bool × Env)),
    s.tx.timerRun = true → s.tx.mode = .read → DisarmOk ts → ts.map Prod.fst = List.replicate n v →
    (s.tx.capture = BitVec.ofNat 16 (2 + v.toNat) ∧ first = 1 ∨ s.tx.capture = 1 ∧ v = true ∧ first = 0) →
    (n + first ≤ 8 →
      ∃ u, runTicks ts s = .next u ∧ u.tx = { s.tx with capture := u.tx.capture } ∧
        lastSample u.tx.capture = v ∧ edgeAge u.tx.capture = n + first ∧
        isFull u.tx.capture = decide (4 ≤ n + first)) ∧
    (n + first = 9 →
      ∃ u, runTicks ts s = .next u ∧ u.tx.mode = .errorProtocol ∧ u.tx.err = .noChangeTooLong ∧
        u.tx.timerRun = false ∧ u.tx.bitPos = s.tx.bitPos ∧
        u.tx.capture = if v then 0x1FF else 0x100)

/-! ### The tick: the encoder -/

/-- R200 to R203 (decision D16): one half-slot; the sample is ignored. -/
def Obligations.TickWritesAHalfSlot : Prop :=
  ∀ (s : State) (v b : Bool), s.tx.timerRun = true → s.tx.mode = .write → s.tx.bitPos.toNat ≤ 33 →
    b = (if s.tx.bitPos = 33 ∨ s.tx.bitPos = 0 then true else s.tx.data.getLsbD (s.tx.bitPos.toNat - 1)) →
    (s.tx.clock = true →
      exec (.tick v) s = .next { s with tx := { s.tx with lineOut := !b, clock := false }, out := .silent }) ∧
    (s.tx.clock = false → s.tx.bitPos ≠ 0 →
      exec (.tick v) s = .next
        { s with
          tx := { s.tx with
            lineOut := b
            clock := true
            bitPos := BitVec.ofNat 6 (s.tx.bitPos.toNat - 1) }
          out := .silent }) ∧
    (s.tx.clock = false → s.tx.bitPos = 0 →
      exec (.tick v) s = .next
        { s with tx := s.endedIn .sent { s.tx with lineOut := true, clock := true }, out := .silent })

/-- R204: a `SEND` that is not interrupted takes exactly 68 ticks, drives exactly the 68 levels of the frame, and ends
in `SENT` with the line high. -/
def Obligations.EncoderDrivesTheWireFormat : Prop :=
  ∀ (s : State) (f : Frame) (ts : List (Bool × Env)),
    s.tx.available = true → s.DisarmObeys → s.env.arm = .ok → ts.length = 68 → DisarmOk ts →
    ∃ t u, exec (.send f.ty f.id f.hb f.lb) s = .next t ∧
      lineTrace ts t = wireLevels f.pack ∧
      runTicks ts t = .next u ∧
      u.tx = { t.tx with mode := .sent, bitPos := 0, clock := true, lineOut := true, timerRun := false }

/-! ### Properties of the decoder -/

/-- R182 and `L1`, for every 32-bit word of good parity (spare bits and type code 3 included, R103): the decoder,
listening, takes the inverted levels of the word, each held for 2 and 3 samples alternately, after any idle time
shorter than the timeout, and receives it. The samples after `RECEIVED` are ticks on a stopped timer, which the model
discards (log 8). -/
def Obligations.DecoderReceivesTheWireFormat : Prop :=
  ∀ (s : State) (w : Word) (a b lead tail : Nat) (ts : List (Bool × Env)),
    s.tx.mode = .listen → s.tx.timerRun = true → lead < s.tx.timeoutCnt.toNat → parityOK w = true →
    (a = 3 ∧ b = 2 ∨ a = 2 ∧ b = 3) → ts.map Prod.fst = receivedSamples a b lead tail (wireLevels w) → DisarmOk ts →
    ∃ u, runTicks ts s = .next u ∧ u.tx.mode = .received ∧ u.tx.data = w ∧ u.tx.bitPos = 33 ∧
      u.tx.timerRun = false ∧ u.tx.err = s.tx.err ∧
      u.tx.timeoutCnt = BitVec.ofNat 32 (s.tx.timeoutCnt.toNat - lead - 1)

/-- R182, `decode(encode(F)) = F`: what one block drives while it sends, inverted and sampled by another that listens,
is answered by the other's `GET_MESSAGE` with the same four fields. The samples after `RECEIVED` are ticks on a stopped
timer, which the model discards (log 8). -/
def Obligations.RoundTripThroughTheLine : Prop :=
  ∀ (snd rcv : State) (f : Frame) (a b lead tail : Nat) (ts rs : List (Bool × Env)),
    snd.tx.available = true → snd.DisarmObeys → snd.env.arm = .ok → ts.length = 68 → DisarmOk ts →
    rcv.tx.mode = .listen → rcv.tx.timerRun = true → lead < rcv.tx.timeoutCnt.toNat →
    (a = 3 ∧ b = 2 ∨ a = 2 ∧ b = 3) →
    ∃ t, exec (.send f.ty f.id f.hb f.lb) snd = .next t ∧
      (rs.map Prod.fst = receivedSamples a b lead tail (lineTrace ts t) → DisarmOk rs →
        ∃ u v, runTicks rs rcv = .next u ∧ exec .getMessage u = .next v ∧
          v.out.response = .message true f.payload)

/-- R171 (b), R181: with `timeout_cnt = N`, `N` low samples leave the block listening and one more tick times it out;
whatever the samples are, `N + 1` ticks end the listening. Where a reception ends before the last of them, the ticks
after its end fall on a stopped timer, and the model discards them (log 8). -/
def Obligations.ListeningIsBounded : Prop :=
  ∀ (s : State) (ts : List (Bool × Env)), s.tx.mode = .listen → s.tx.timerRun = true → DisarmOk ts →
    (ts.length = s.tx.timeoutCnt.toNat → (∀ t ∈ ts, t.1 = false) →
      ∃ u, runTicks ts s = .next u ∧ u.tx = { s.tx with timeoutCnt := 0 }) ∧
    (ts.length = s.tx.timeoutCnt.toNat + 1 → (∀ t ∈ ts, t.1 = false) →
      ∃ u, runTicks ts s = .next u ∧ u.tx = { s.tx with timeoutCnt := 0, mode := .errorTimeout, timerRun := false }) ∧
    (ts.length = s.tx.timeoutCnt.toNat + 1 → ∃ u, runTicks ts s = .next u ∧ u.tx.mode ≠ .listen)

/-- R181, R331: whatever the line does and whether or not the timer obeys, 612 ticks end the read phase. Ticks after
its end are discarded where the timer is stopped, which is the model's reading (log 8), and do nothing where it still
runs (R170). -/
def Obligations.ReadingIsBounded : Prop :=
  ∀ (s : State) (ts : List (Bool × Env)), s.tx.mode = .read → s.tx.timerRun = true → TxInv s.tx → 612 ≤ ts.length →
    ∃ u, runTicks ts s = .next u ∧
      (u.tx.mode = .received ∨ u.tx.mode = .errorProtocol ∨ u.tx.mode = .errorTimer)

/-- R111, R146 and `L2`: a frame that `GET_MESSAGE` returns is complete and has good parity. -/
def Obligations.OnlyGoodFramesAreReturned : Prop :=
  ∀ (s t : State) (w : Word), BlockInv s → exec .getMessage s = .next t → t.out.response = .message true w →
    s.tx.bitPos = 33 ∧ parityOK s.tx.data = true ∧ Frame.unpack w = Frame.unpack s.tx.data

/-! ### Configuration, setup, rotation -/

/-- R215 (decisions D24, D40): `CFG_MSG` writes the two entries of its identifier and nothing else, and is refused
after `SETUP`; no operation removes an identifier. -/
def Obligations.CfgMsgResult : Prop :=
  (∀ (s : State) (id : Ident) (order : Byte),
    (s.sched.setupDone = false →
      ∃ t, exec (.cfgMsg id order) s = .next t ∧
        (∀ j, t.sched.orderOf j = if j = id then order else s.sched.orderOf j) ∧
        (∀ j, t.sched.isConfigured j = if j = id then true else s.sched.isConfigured j) ∧
        t = { s with
          sched := { s.sched with order := t.sched.order, configured := t.sched.configured }, out := .silent }) ∧
    (s.sched.setupDone = true → exec (.cfgMsg id order) s = .refused .configurationFrozen)) ∧
  ∀ (i : Instr) (s t : State) (j : Ident), exec i s = .next t → s.sched.isConfigured j = true →
    t.sched.isConfigured j = true

/-- R216 (decision D37): `CFG_CTRL`, and its two refusals. -/
def Obligations.CfgCtrlResult : Prop :=
  ∀ (s : State) (sync : Bool) (timeoutMs : BitVec 30),
    (s.sched.setupDone = false → timeoutMs.toNat ≤ 858993459 →
      exec (.cfgCtrl sync timeoutMs) s = .next
        { s with
          sched := { s.sched with cfgSync := sync, cfgTimeoutMs := BitVec.ofNat 32 timeoutMs.toNat }
          out := .silent }) ∧
    (s.sched.setupDone = false → 858993459 < timeoutMs.toNat →
      exec (.cfgCtrl sync timeoutMs) s = .refused (.illegalWord .timeoutOutOfRange)) ∧
    (s.sched.setupDone = true → exec (.cfgCtrl sync timeoutMs) s = .refused .configurationFrozen)

/-- R217 (decision D25): `SETUP` after a good `INIT` with and without startup identifiers, after a failed `INIT`, and
its two refusals. The list derived stands in `rot[0] .. rot[rot_len - 1]`; the entries of `rot` past it are not spoken
of (log 5). -/
def Obligations.SetupResult : Prop :=
  ∀ s : State,
    (s.sched.setupDone = true → exec .setup s = .refused .alreadySetUp) ∧
    (s.sched.setupDone = false → s.tx.inited = false → exec .setup s = .refused .setupBeforeInit) ∧
    (s.sched.setupDone = false → s.tx.inited = true → s.tx.initFailed = true →
      exec .setup s = .next
        { s with sched := { s.sched with setupDone := true, failed := true }, out := ⟨.ack false, [.setupFailed]⟩ }) ∧
    (s.sched.setupDone = false → s.tx.inited = true → s.tx.initFailed = false →
      deriveInitial s.platform s.sched ≠ [] →
      ∃ r : Vector Ident 256, r.toList.take (deriveInitial s.platform s.sched).length = deriveInitial s.platform s.sched ∧
        exec .setup s = .next
          { s with
            sched := { s.sched with
              setupDone := true, rot := r, rotLen := BitVec.ofNat 9 (deriveInitial s.platform s.sched).length
              cursor := 0, phase := .initial }
            out := ⟨.ack true, []⟩ }) ∧
    (s.sched.setupDone = false → s.tx.inited = true → s.tx.initFailed = false →
      deriveInitial s.platform s.sched = [] →
      ∃ r : Vector Ident 256,
        r.toList.take (deriveRepeating s.platform s.sched).length = deriveRepeating s.platform s.sched ∧
        exec .setup s = .next
          { s with
            sched := { s.sched with
              setupDone := true, rot := r, rotLen := BitVec.ofNat 9 (deriveRepeating s.platform s.sched).length
              cursor := 0, phase := .repeating }
            out := ⟨.ack true, []⟩ })

/-- R218, R219 (decision D24): the phase 1 list holds exactly the configured identifiers that do not repeat, in
ascending order of (order value, rank); the phase 2 list exactly those that repeat, in ascending order of rank; each
identifier once. -/
def Obligations.DerivedListsAreSortedAndComplete : Prop :=
  ∀ (p : Platform) (c : Scheduler),
    (∀ i, i ∈ deriveInitial p c ↔ c.isConfigured i = true ∧ c.orderOf i ≠ 255) ∧
    (deriveInitial p c).Nodup ∧ (deriveInitial p c).length ≤ 256 ∧
    ((deriveInitial p c).Pairwise fun i j =>
      (c.orderOf i).toNat < (c.orderOf j).toNat ∨ (c.orderOf i = c.orderOf j ∧ rankOf p i ≤ rankOf p j)) ∧
    (∀ i, i ∈ deriveRepeating p c ↔ c.isConfigured i = true ∧ c.orderOf i = 255) ∧
    (deriveRepeating p c).Nodup ∧ (deriveRepeating p c).length ≤ 256 ∧
    ((deriveRepeating p c).Pairwise fun i j => rankOf p i ≤ rankOf p j)

/-- R237 and `L3`: if every conversation ends in `RECEIVED`, the identifiers requested from `SETUP` on are the startup
list once and then the repeating list again and again. -/
def Obligations.RotationIsFair : Prop :=
  ∀ (p : Platform) (c : Scheduler) (k : Nat) (rest : Vector Ident 256) (rests : List (Vector Ident 256)),
    rests.length = (deriveInitial p c).length + k * (deriveRepeating p c).length →
    requestSequence p rests (c.startRotation p rest) =
      (deriveInitial p c ++ (List.replicate k (deriveRepeating p c)).flatten).map some

/-! ### The request -/

/-- R121, R223 (bit positions 1 to 6: decision D8): the master status byte. -/
def Obligations.StatusByteBits : Prop :=
  ∀ (e : Env) (k : Nat),
    e.statusByte.getLsbD k =
      if k = 0 then e.stLocal.getLsbD 0 && e.stRead.getLsbD 0 && e.chSetpointPositive
      else if k ≤ 6 then e.stLocal.getLsbD k && e.stRead.getLsbD k
      else false

/-- R222 (decisions D8, D32): the request for an identifier, in the source's priority order; and what decides the order
(R43): a registered write handler wins over a read handler, and its value is the one that is sent. -/
def Obligations.BuildRequestCases : Prop :=
  ∀ (e : Env) (id : Ident),
    e.buildRequest 0 = (⟨0, 0, e.statusByte, 0⟩, []) ∧
    (id ≠ 0 → e.role id = .writeHandler →
      e.buildRequest id = (⟨1, id, (e.wvalue id).extractLsb' 8 8, (e.wvalue id).extractLsb' 0 8⟩, [])) ∧
    (id ≠ 0 → e.role id = .readHandler → e.buildRequest id = (⟨0, id, 0, 0⟩, [])) ∧
    (id ≠ 0 → e.role id = .noHandler → e.buildRequest id = (⟨0, 0, 0, 0⟩, [.cfgDefect id])) ∧
    (e.role id = .writeHandler ↔ ∃ v, (id, v) ∈ e.writeHandlers) ∧
    (e.role id = .readHandler ↔ id ∈ e.readHandlers ∧ ¬ ∃ v, (id, v) ∈ e.writeHandlers) ∧
    (e.role id = .noHandler ↔ id ∉ e.readHandlers ∧ ¬ ∃ v, (id, v) ∈ e.writeHandlers) ∧
    (e.role id = .writeHandler → (id, e.wvalue id) ∈ e.writeHandlers) ∧
    (∀ v, (id, v) ∈ e.writeHandlers → (∀ u, (id, u) ∈ e.writeHandlers → u = v) → e.wvalue id = v)

/-! ### The main-loop step -/

/-- R225, R40: `LOOP` before `SETUP` is refused, and with `failed = 1` it does nothing in any mode (R230, decision
D36). -/
def Obligations.LoopBeforeSetupOrFailed : Prop :=
  ∀ (s : State) (now : Millis),
    (s.sched.setupDone = false → exec (.loop now) s = .refused .loopBeforeSetup) ∧
    (s.sched.setupDone = true → s.sched.failed = true → exec (.loop now) s = .next { s with out := .silent })

/-- R226: `LOOP` on `SENT` is the command `LISTEN` and nothing else. -/
def Obligations.LoopOnSentListens : Prop :=
  ∀ (s : State) (now : Millis), s.sched.setupDone = true → s.sched.failed = false → s.tx.mode = .sent →
    exec (.loop now) s = exec .listen s

/-- R227, R221, R234 (decisions D25, D26, D30): `LOOP` on `RECEIVED`, inside the list and at its end. The entries of
`rot` past a list that is written are not spoken of (log 5). R221 has `cursor < rot_len` as its precondition; the first
clause does not ask for it, and past the list it is the model's own 8-bit increment (log 14). -/
def Obligations.LoopOnReceived : Prop :=
  ∀ (s : State) (now : Millis) (f : Frame), s.sched.setupDone = true → s.sched.failed = false → s.tx.mode = .received →
    f = s.env.hookPreProcess.getD
      ⟨s.tx.data.extractLsb' 28 3, s.tx.data.extractLsb' 16 8, s.tx.data.extractLsb' 8 8, s.tx.data.extractLsb' 0 8⟩ →
    (s.sched.cursor.toNat + 1 ≠ s.sched.rotLen.toNat →
      exec (.loop now) s = .next
        { s with
          tx := s.stoppedTx
          sched := { s.sched with cursor := s.sched.cursor + 1, convEnd := now, convEndValid := true }
          out := ⟨.none, [.response f.ty f.id f.hb f.lb]⟩ }) ∧
    (s.sched.cursor.toNat + 1 = s.sched.rotLen.toNat →
      ∃ r : Vector Ident 256,
        r.toList.take (deriveRepeating s.platform s.sched).length = deriveRepeating s.platform s.sched ∧
        exec (.loop now) s = .next
          { s with
            tx := s.stoppedTx
            sched := { s.sched with
              cursor := 0, rot := r, rotLen := BitVec.ofNat 9 (deriveRepeating s.platform s.sched).length
              phase := .repeating, convEnd := now, convEndValid := true }
            out := ⟨.none, [.response f.ty f.id f.hb f.lb]⟩ })

/-- R228, R229, R234: `LOOP` on `ERROR_PROTOCOL` or `ERROR_TIMEOUT` reports the error, stops, stamps the end, and
leaves cursor, phase and list: the same identifier is requested again. -/
def Obligations.LoopOnRetryableErrors : Prop :=
  ∀ (s : State) (now : Millis), s.sched.setupDone = true → s.sched.failed = false →
    (s.tx.mode = .errorProtocol →
      exec (.loop now) s = .next
        { s with
          tx := s.stoppedTx
          sched := { s.sched with convEnd := now, convEndValid := true }
          out := ⟨.none, [.protocolError s.tx.err s.tx.bitPos s.tx.capture s.tx.clock]⟩ }) ∧
    (s.tx.mode = .errorTimeout →
      exec (.loop now) s = .next
        { s with
          tx := s.stoppedTx
          sched := { s.sched with convEnd := now, convEndValid := true }
          out := ⟨.none, [.timeout]⟩ })

/-- R230 (decision D36): `LOOP` on `ERROR_TIMER` reports the failure, stops, stamps the end and marks the component
permanently failed; a `LOOP` of the state this leaves does nothing, so the failure is reported once. -/
def Obligations.LoopOnTimerError : Prop :=
  ∀ (s : State) (now : Millis), s.sched.setupDone = true → s.sched.failed = false → s.tx.mode = .errorTimer →
    exec (.loop now) s = .next
      { s with
        tx := s.stoppedTx
        sched := { s.sched with convEnd := now, convEndValid := true, failed := true }
        out := ⟨.none, [.timerFatal s.tx.terr]⟩ } ∧
    ∀ (later : Millis) (t : State), exec (.loop now) s = .next t → exec (.loop later) t = .next { t with out := .silent }

/-- R231, R224 (decisions D23, D27, D28): `LOOP` on `IDLE` writes no register while the 100 ms gap has not elapsed, or
with an empty list. Otherwise, where the transceiver accepts commands, it starts the next conversation: the request for
the identifier under the cursor is built, given to the hook and sent by the command `SEND`, whose effect on the
transceiver record is the one the command has in `s`; the start is stamped, and an overrun of the last conversation is
only reported. -/
def Obligations.LoopOnIdle : Prop :=
  ∀ (s : State) (now : Millis), s.sched.setupDone = true → s.sched.failed = false → s.tx.mode = .idle →
    ((s.sched.convEndValid = true ∧ (now - s.sched.convEnd).toNat < 100 ∨ s.sched.rotLen = 0) →
      exec (.loop now) s = .next { s with out := .silent }) ∧
    (∀ (id0 : Ident) (f : Frame),
      (s.sched.convEndValid = true → 100 ≤ (now - s.sched.convEnd).toNat) →
      s.sched.cursor.toNat < s.sched.rotLen.toNat → s.sched.rot[s.sched.cursor.toNat]? = some id0 →
      f = s.env.hookPreSend.getD (s.env.buildRequest id0).1 → s.tx.available = true →
      ∃ u, exec (.send f.ty f.id f.hb f.lb) s = .next u ∧
        exec (.loop now) s = .next
          { s with
            tx := u.tx
            sched := { s.sched with convStart := now, convStartValid := true }
            out := ⟨.none,
              (if s.sched.convStartValid = true ∧ s.sched.convEndValid = true ∧
                  1150 < (s.sched.convEnd - s.sched.convStart).toNat then
                [.budgetWarning (s.sched.convEnd - s.sched.convStart)] else []) ++
              (s.env.buildRequest id0).2 ++ [.request f.id f.ty f.hb f.lb]⟩ })

/-- R232 (decision D29): `LOOP` on an active mode does nothing, but for the synchronous ceiling. -/
def Obligations.LoopOnAnActiveMode : Prop :=
  ∀ (s : State) (now : Millis), s.sched.setupDone = true → s.sched.failed = false →
    (s.tx.mode = .listen ∨ s.tx.mode = .read ∨ s.tx.mode = .write) →
    ((s.sched.cfgSync = false ∨ s.sched.convStartValid = false ∨ (now - s.sched.convStart).toNat ≤ 1150) →
      exec (.loop now) s = .next { s with out := .silent }) ∧
    (s.sched.cfgSync = true → s.sched.convStartValid = true → 1150 < (now - s.sched.convStart).toNat →
      exec (.loop now) s = .next
        { s with
          tx := s.stoppedTx
          sched := { s.sched with convEnd := now, convEndValid := true }
          out := ⟨.none, [.timeout]⟩ })

/-! ### Rules about the whole machine -/

/-- R48: who writes what. A tick and the transceiver commands leave the scheduler record; configuration and setup
leave the transceiver record; `LOOP` changes the transceiver record only by the commands `LISTEN`, `SEND` and `STOP`;
nothing writes the platform, and the environment's inputs and the port are as they were. -/
def Obligations.EachContextWritesItsOwnRecord : Prop :=
  ∀ (i : Instr) (s t : State), exec i s = .next t →
    (t.platform = s.platform ∧ t.env = s.env ∧ t.port = s.port) ∧
    (match i with
     | .init | .listen | .send _ _ _ _ | .getMessage | .getProtocolError | .stop | .tick _ => t.sched = s.sched
     | .cfgMsg _ _ | .cfgCtrl _ _ | .setup => t.tx = s.tx
     | .loop _ =>
       t.tx = s.tx ∨ (∃ u, exec .listen s = .next u ∧ t.tx = u.tx) ∨
       (∃ ty id hb lb u, exec (.send ty id hb lb) s = .next u ∧ t.tx = u.tx) ∨
       (∃ u, exec .stop s = .next u ∧ t.tx = u.tx))

/-- R40, R81 (decision D40): from `SETUP` on no operation changes the configuration, and `setup_done` stays. -/
def Obligations.ConfigurationIsFrozenBySetup : Prop :=
  ∀ (i : Instr) (s t : State), s.sched.setupDone = true → exec i s = .next t →
    t.sched.setupDone = true ∧ t.sched.order = s.sched.order ∧ t.sched.configured = s.sched.configured ∧
    t.sched.cfgSync = s.sched.cfgSync ∧ t.sched.cfgTimeoutMs = s.sched.cfgTimeoutMs

/-- R39, R287, R298 (decision D36): the permanently failed mark is never cleared, and from then on, once `SETUP` is done,
the scheduler record does not change and no event is emitted: no conversation is attempted and no fatal error is
reported again. The transceiver record may still change by ticks and by the host's own commands (R324). -/
def Obligations.FailureIsPermanent : Prop :=
  ∀ (i : Instr) (s t : State), s.sched.failed = true → exec i s = .next t →
    t.sched.failed = true ∧
    (s.sched.setupDone = true → t.sched = s.sched ∧ t.out.events = [])

/-- R287, R22, R23 (decisions D5, D6): `err` is written only by a reading tick that raises a protocol error, `terr`
only by a timer primitive that fails; neither is ever cleared. -/
def Obligations.CauseRegistersAreSticky : Prop :=
  ∀ (i : Instr) (s t : State), exec i s = .next t →
    (t.tx.err ≠ s.tx.err →
      (∃ v, i = .tick v) ∧ s.tx.mode = .read ∧ t.tx.err ≠ .noError ∧
      (t.tx.mode = .errorProtocol ∨ t.tx.mode = .errorTimer)) ∧
    (t.tx.terr ≠ s.tx.terr →
      t.tx.terr = .disarm ∧ s.env.disarm = .fail ∧ s.tx.timerRun = true ∨
      t.tx.terr = .arm ∧ s.env.arm = .fail ∧ t.tx.mode = .errorTimer)

/-- R75: `line_out` is driven only by `INIT` and by a tick in mode `WRITE`. -/
def Obligations.LineIsDrivenByInitAndWriteTicks : Prop :=
  ∀ (i : Instr) (s t : State), exec i s = .next t → t.tx.lineOut ≠ s.tx.lineOut →
    i = .init ∨ ((∃ v, i = .tick v) ∧ s.tx.mode = .write ∧ s.tx.timerRun = true)

/-- R149: every change of mode is one the transition table allows (the rows for `INIT`, the configuration operations
and `LOOP` are those of R143, R215 to R217 and R226 to R232). -/
def Obligations.ModesFollowTheTransitionTable : Prop :=
  ∀ (i : Instr) (s t : State), exec i s = .next t → t.tx.mode ∈ allowedModes i s.tx.mode

/-- R236, R231: a request is emitted only by a `LOOP` of a component that is set up and not failed, from `IDLE`, at
least 100 ms after the end of the last conversation. -/
def Obligations.ConversationsStartOnlyFromIdleAfterTheGap : Prop :=
  ∀ (i : Instr) (s t : State) (id : Ident) (ty : BitVec 3) (hb lb : Byte),
    exec i s = .next t → .request id ty hb lb ∈ t.out.events →
    ∃ now, i = .loop now ∧ s.sched.setupDone = true ∧ s.sched.failed = false ∧ s.tx.mode = .idle ∧
      s.sched.rotLen ≠ 0 ∧ (s.sched.convEndValid = true → 100 ≤ (now - s.sched.convEnd).toNat)

/-! ### Data values -/

/-- R261 to R264, R267: the two bytes and their bits, the 16-bit interpretations and their inverses, and the refusal of
values outside the ranges, which is the answer `none` or no related word (log 9). The two clauses on the
positive-setpoint input of a host that holds an 8.8 value are R268's, which the spec derives from R265. -/
def Obligations.IntegerInterpretationsInvert : Prop :=
  (∀ hb lb : Byte,
    bytesOf hb lb = (hb.toNat, lb.toNat) ∧
    (∀ k : Fin 8, flagOf hb k = decide (hb.toNat / 2 ^ k.val % 2 = 1)) ∧
    u16 hb lb = 256 * hb.toNat + lb.toNat ∧
    s16 hb lb = (if 256 * hb.toNat + lb.toNat < 32768 then (256 * hb.toNat + lb.toNat : Int)
      else 256 * hb.toNat + lb.toNat - 65536) ∧
    u16Inverse (u16 hb lb) = some (hb, lb) ∧ s16Inverse (s16 hb lb) = some (hb, lb) ∧
    (setpointPositive hb lb = true ↔ 0 < f88 hb lb) ∧
    (setpointPositive hb lb = true ↔ hb.toNat < 128 ∧ (hb ≠ 0 ∨ lb ≠ 0))) ∧
  (∀ n : Int, 0 ≤ n → n ≤ 65535 →
    ∃ hb lb : Byte, u16Inverse n = some (hb, lb) ∧ (hb.toNat : Int) = n / 256 ∧ (lb.toNat : Int) = n % 256) ∧
  (∀ n : Int, -32768 ≤ n → n ≤ 32767 →
    ∃ hb lb : Byte, s16Inverse n = some (hb, lb) ∧ (256 * hb.toNat + lb.toNat : Int) = n % 65536) ∧
  (∀ n : Int, (n < 0 ∨ 65535 < n → u16Inverse n = none) ∧ (n < -32768 ∨ 32767 < n → s16Inverse n = none)) ∧
  (∀ v : ℝ, v < -128 ∨ 128 ≤ v → ∀ w, ¬ EncodesF88 v w)

/-- R265, R266 (truncation: decision D33), R267, for every real number: the 8.8 value of a pair of bytes; a value in
range has exactly one encoding, which decodes to within 1/256 of the value, never further from zero, and to the value
itself if it is a multiple of 1/256; out of range it has none. The function that evaluates the encoding of a rational
number agrees (log 9). -/
def Obligations.FixedPointEncodingIsWithinOneStep : Prop :=
  (∀ hb lb : Byte, f88 hb lb = ((hb.toInt : Rat) + (lb.toNat : Rat) / 256)) ∧
  (∀ v : ℝ,
    (-128 ≤ v → v < 128 →
      ∃ hb lb : Byte, EncodesF88 v (raw16 hb lb) ∧ (∀ w, EncodesF88 v w → w = raw16 hb lb) ∧
        |(f88 hb lb : ℝ) - v| < 1 / 256 ∧ |(f88 hb lb : ℝ)| ≤ |v| ∧
        ((∃ n : Int, v * 256 = n) → (f88 hb lb : ℝ) = v)) ∧
    (v < -128 ∨ 128 ≤ v → ∀ w, ¬ EncodesF88 v w)) ∧
  (∀ (q : Rat) (w : BitVec 16), encF88 q = some w ↔ EncodesF88 (q : ℝ) w)

/-! ### The idle level of the line -/

/-- R45 (f): after `INIT` the line is high in every mode but `WRITE`, unless the last `WRITE` was cut short (R322). It
holds after reset, when no `WRITE` has happened, on every platform, and every step keeps it, whatever the state, the
history being carried along. -/
def Obligations.LineIsHighUnlessAWriteWasCutShort : Prop :=
  (∀ p : Platform, LineIdle false (State.resetOn p).tx) ∧
  ∀ (cut : Bool) (s t : State), LineIdle cut s.tx → step s = .next t → LineIdle (cutAfter cut s.tx t.tx) t.tx
end

