-- ==== Sys2Proof/Laws/Bits.lean ====
section
/-! SUPPORT. The bits of a placed field and of a register a bit is shifted into. -/

namespace Sys2Proof

/-- The bits of a placed field. -/
@[simp] theorem getLsbD_place {n : Nat} (m lo : Nat) (field : BitVec n) (k : Nat) :
    (place m lo field).getLsbD k = (decide (k < m) && decide (lo ≤ k) && field.getLsbD (k - lo)) := by
  by_cases hm : k < m <;> by_cases hl : lo ≤ k <;> simp [place, hm, hl]

@[simp] theorem getElem_place {n : Nat} (m lo : Nat) (field : BitVec n) (k : Nat) (hk : k < m) :
    (place m lo field)[k] = (decide (lo ≤ k) && field.getLsbD (k - lo)) := by
  rw [← BitVec.getLsbD_eq_getElem, getLsbD_place]
  simp [hk]

end Sys2Proof

namespace Sys2Proof.Machine

/-- `shiftIn` is doubling and adding the bit, cut to the register's width (R172). -/
theorem toNat_shiftIn {n : Nat} (w : BitVec (n + 1)) (b : Bool) :
    (shiftIn w b).toNat = (2 * w.toNat + b.toNat) % 2 ^ (n + 1) := by
  have h : shiftIn w b = (w.concat b).setWidth (n + 1) := by
    apply BitVec.eq_of_getLsbD_eq
    intro i hi
    cases i with
    | zero => simp [shiftIn, hi]
    | succ k => simp [shiftIn, hi, BitVec.getLsbD_eq_getElem (show k < n + 1 by omega)]
  rw [h, BitVec.toNat_setWidth, BitVec.toNat_concat]
  congr 1; omega

end Sys2Proof.Machine
end

