-- ==== Sys2Proof/Laws/State.lean ====
section
/-! SUPPORT. One lemma per field of `State` per update, so that no later proof unfolds a record update. -/

namespace Sys2Proof.Machine

section withTx
variable (s : State) (x : Transceiver)
@[simp] theorem State.withTx_tx : (s.withTx x).tx = x := rfl
@[simp] theorem State.withTx_sched : (s.withTx x).sched = s.sched := rfl
@[simp] theorem State.withTx_platform : (s.withTx x).platform = s.platform := rfl
@[simp] theorem State.withTx_env : (s.withTx x).env = s.env := rfl
@[simp] theorem State.withTx_port : (s.withTx x).port = s.port := rfl
@[simp] theorem State.withTx_out : (s.withTx x).out = s.out := rfl
end withTx

section withSched
variable (s : State) (c : Scheduler)
@[simp] theorem State.withSched_tx : (s.withSched c).tx = s.tx := rfl
@[simp] theorem State.withSched_sched : (s.withSched c).sched = c := rfl
@[simp] theorem State.withSched_platform : (s.withSched c).platform = s.platform := rfl
@[simp] theorem State.withSched_env : (s.withSched c).env = s.env := rfl
@[simp] theorem State.withSched_port : (s.withSched c).port = s.port := rfl
@[simp] theorem State.withSched_out : (s.withSched c).out = s.out := rfl
end withSched

section beginStep
variable (s : State)
@[simp] theorem State.beginStep_tx : s.beginStep.tx = s.tx := rfl
@[simp] theorem State.beginStep_sched : s.beginStep.sched = s.sched := rfl
@[simp] theorem State.beginStep_platform : s.beginStep.platform = s.platform := rfl
@[simp] theorem State.beginStep_env : s.beginStep.env = s.env := rfl
@[simp] theorem State.beginStep_port : s.beginStep.port = s.port := rfl
@[simp] theorem State.beginStep_out : s.beginStep.out = .silent := rfl
end beginStep

section emit
variable (s : State) (es : List Event)
@[simp] theorem State.emit_tx : (s.emit es).tx = s.tx := rfl
@[simp] theorem State.emit_sched : (s.emit es).sched = s.sched := rfl
@[simp] theorem State.emit_platform : (s.emit es).platform = s.platform := rfl
@[simp] theorem State.emit_env : (s.emit es).env = s.env := rfl
@[simp] theorem State.emit_port : (s.emit es).port = s.port := rfl
@[simp] theorem State.emit_response : (s.emit es).out.response = s.out.response := rfl
@[simp] theorem State.emit_events : (s.emit es).out.events = s.out.events ++ es := rfl
end emit

section respond
variable (s : State) (r : Response)
@[simp] theorem State.respond_tx : (s.respond r).tx = s.tx := rfl
@[simp] theorem State.respond_sched : (s.respond r).sched = s.sched := rfl
@[simp] theorem State.respond_platform : (s.respond r).platform = s.platform := rfl
@[simp] theorem State.respond_env : (s.respond r).env = s.env := rfl
@[simp] theorem State.respond_port : (s.respond r).port = s.port := rfl
@[simp] theorem State.respond_response : (s.respond r).out.response = r := rfl
@[simp] theorem State.respond_events : (s.respond r).out.events = s.out.events := rfl
end respond

section silent
@[simp] theorem Outputs.silent_response : Outputs.silent.response = .none := rfl
@[simp] theorem Outputs.silent_events : Outputs.silent.events = [] := rfl
end silent

section stop
variable (s : State)
@[simp] theorem State.stop_tx : s.stop.tx = stopTransceiver s.env.disarm s.tx := rfl
@[simp] theorem State.stop_sched : s.stop.sched = s.sched := rfl
@[simp] theorem State.stop_platform : s.stop.platform = s.platform := rfl
@[simp] theorem State.stop_env : s.stop.env = s.env := rfl
@[simp] theorem State.stop_port : s.stop.port = s.port := rfl
@[simp] theorem State.stop_out : s.stop.out = s.out := rfl
end stop

section stopConversation
variable (now : Millis) (s : State)
@[simp] theorem State.stopConversation_tx :
    (s.stopConversation now).tx = stopTransceiver s.env.disarm s.tx := rfl
@[simp] theorem State.stopConversation_sched :
    (s.stopConversation now).sched = { s.sched with convEnd := now, convEndValid := true } := rfl
@[simp] theorem State.stopConversation_platform : (s.stopConversation now).platform = s.platform := rfl
@[simp] theorem State.stopConversation_env : (s.stopConversation now).env = s.env := rfl
@[simp] theorem State.stopConversation_port : (s.stopConversation now).port = s.port := rfl
@[simp] theorem State.stopConversation_out : (s.stopConversation now).out = s.out := rfl
end stopConversation

section lineDrive
variable (b : Bool) (x : Transceiver)
@[simp] theorem lineDrive_lineOut : (lineDrive b x).lineOut = b := rfl
@[simp] theorem lineDrive_mode : (lineDrive b x).mode = x.mode := rfl
@[simp] theorem lineDrive_err : (lineDrive b x).err = x.err := rfl
@[simp] theorem lineDrive_terr : (lineDrive b x).terr = x.terr := rfl
@[simp] theorem lineDrive_data : (lineDrive b x).data = x.data := rfl
@[simp] theorem lineDrive_bitPos : (lineDrive b x).bitPos = x.bitPos := rfl
@[simp] theorem lineDrive_capture : (lineDrive b x).capture = x.capture := rfl
@[simp] theorem lineDrive_clock : (lineDrive b x).clock = x.clock := rfl
@[simp] theorem lineDrive_timeoutCnt : (lineDrive b x).timeoutCnt = x.timeoutCnt := rfl
@[simp] theorem lineDrive_inited : (lineDrive b x).inited = x.inited := rfl
@[simp] theorem lineDrive_initFailed : (lineDrive b x).initFailed = x.initFailed := rfl
@[simp] theorem lineDrive_timerRun : (lineDrive b x).timerRun = x.timerRun := rfl
@[simp] theorem lineDrive_timerRate : (lineDrive b x).timerRate = x.timerRate := rfl
end lineDrive

end Sys2Proof.Machine
end

