-- ==== Sys2Proof/Laws/Ops.lean ====
section
/-! SUPPORT. For each shared operation one lemma that says everything it can do. -/

namespace Sys2Proof.Machine

/-- `TimerStop` (R140): no draw when the timer is stopped, else disarmed or failed. -/
theorem timerStop_cases (r : TimerResult) (x : Transceiver) :
    (x.timerRun = false ∧ timerStop r x = (x, .ok)) ∨
    (x.timerRun = true ∧ r = .ok ∧ timerStop r x = ({ x with timerRun := false }, .ok)) ∨
    (x.timerRun = true ∧ r = .fail ∧
      timerStop r x = ({ x with terr := .disarm, mode := .errorTimer }, .fail)) := by
  cases h : x.timerRun <;> cases r <;> simp [timerStop, h]

/-- `TimerStart` (R141): armed or failed. -/
theorem timerStart_cases (rate : Rate) (r : TimerResult) (x : Transceiver) :
    (r = .ok ∧ timerStart rate r x = ({ x with timerRun := true, timerRate := rate }, .ok)) ∨
    (r = .fail ∧ timerStart rate r x = ({ x with terr := .arm, mode := .errorTimer }, .fail)) := by
  cases r <;> simp [timerStart]

/-- Ending in mode `m` (R292): stopped in `m`, or `ERROR_TIMER` with the timer still armed. -/
theorem finishIn_cases (m : Mode) (r : TimerResult) (x : Transceiver) :
    (x.timerRun = false ∧ finishIn m r x = { x with mode := m }) ∨
    (x.timerRun = true ∧ r = .ok ∧ finishIn m r x = { x with mode := m, timerRun := false }) ∨
    (x.timerRun = true ∧ r = .fail ∧ finishIn m r x = { x with mode := .errorTimer, terr := .disarm }) := by
  cases h : x.timerRun <;> cases r <;> simp [finishIn, timerStop, h]

/-- Raising a protocol error (R180): as `finishIn .errorProtocol`, with `err` written in every case. -/
theorem raiseProtocolError_eq (t : ProtocolError) (r : TimerResult) (x : Transceiver) :
    raiseProtocolError t r x = { finishIn .errorProtocol r x with err := t } := by
  cases h : x.timerRun <;> cases r <;> simp [raiseProtocolError, finishIn, timerStop, h]

/-- `STOP` (R148): `IDLE` always; the timer is stopped unless its disarm failed. -/
theorem stopTransceiver_cases (r : TimerResult) (x : Transceiver) :
    (x.timerRun = false ∧ stopTransceiver r x = { x with mode := .idle }) ∨
    (x.timerRun = true ∧ r = .ok ∧ stopTransceiver r x = { x with mode := .idle, timerRun := false }) ∨
    (x.timerRun = true ∧ r = .fail ∧ stopTransceiver r x = { x with mode := .idle, terr := .disarm }) := by
  cases h : x.timerRun <;> cases r <;> simp [stopTransceiver, timerStop, h]

/-- `LISTEN` (R144): the disarm failed, the arm failed, or the block listens. -/
theorem startListening_cases (e : Env) (ms : Word) (x : Transceiver) :
    (x.timerRun = true ∧ e.disarm = .fail ∧
      startListening e ms x = { x with terr := .disarm, mode := .errorTimer }) ∨
    ((x.timerRun = false ∨ e.disarm = .ok) ∧ e.arm = .fail ∧
      startListening e ms x =
        { x with
          timeoutCnt := ms * 5, data := 0, bitPos := 0, capture := 0, clock := false, timerRun := false
          terr := .arm, mode := .errorTimer }) ∨
    ((x.timerRun = false ∨ e.disarm = .ok) ∧ e.arm = .ok ∧
      startListening e ms x =
        { x with
          timeoutCnt := ms * 5, data := 0, bitPos := 0, capture := 0, clock := false
          mode := .listen, timerRun := true, timerRate := .rx }) := by
  cases h : x.timerRun <;> cases hd : e.disarm <;> cases ha : e.arm <;>
    simp [startListening, timerStop, timerStart, rxTicksPerBit, h, hd, ha]

/-- `SEND` (R145): the disarm failed, the arm failed, or the block sends. -/
theorem startSending_cases (e : Env) (f : Frame) (x : Transceiver) :
    (x.timerRun = true ∧ e.disarm = .fail ∧
      startSending e f x = { x with terr := .disarm, mode := .errorTimer }) ∨
    ((x.timerRun = false ∨ e.disarm = .ok) ∧ e.arm = .fail ∧
      startSending e f x =
        { x with
          data := f.pack, clock := true, bitPos := 33, timerRun := false, terr := .arm, mode := .errorTimer }) ∨
    ((x.timerRun = false ∨ e.disarm = .ok) ∧ e.arm = .ok ∧
      startSending e f x =
        { x with
          data := f.pack, clock := true, bitPos := 33, mode := .write, timerRun := true, timerRate := .tx }) := by
  cases h : x.timerRun <;> cases hd : e.disarm <;> cases ha : e.arm <;>
    simp [startSending, timerStop, timerStart, lastSlot, h, hd, ha]

/-- The command `LISTEN` (R142 (b)): refused, or its effect on the transceiver record. -/
theorem State.listen_cases (s : State) :
    (s.tx.available = false ∧ s.listen = .refused .transceiverUnavailable) ∨
    (s.tx.available = true ∧ s.listen = .next (s.withTx (startListening s.env s.sched.cfgTimeoutMs s.tx))) := by
  cases h : s.tx.available <;> simp [State.listen, h]

/-- The command `SEND` (R142 (b)): refused, or its effect on the transceiver record. -/
theorem State.send_cases (f : Frame) (s : State) :
    (s.tx.available = false ∧ s.send f = .refused .transceiverUnavailable) ∨
    (s.tx.available = true ∧ s.send f = .next (s.withTx (startSending s.env f s.tx))) := by
  cases h : s.tx.available <;> simp [State.send, h]

/-- A listening tick (R171): the timeout, the start of the read phase, or one count down. -/
theorem tickListen_cases (v : Bool) (r : TimerResult) (x : Transceiver) :
    (x.timeoutCnt = 0 ∧ tickListen v r x = finishIn .errorTimeout r x) ∨
    (x.timeoutCnt ≠ 0 ∧ v = true ∧ tickListen v r x =
      { x with
        data := 0, bitPos := 0, capture := 1, clock := true, mode := .read, timeoutCnt := x.timeoutCnt - 1 }) ∨
    (x.timeoutCnt ≠ 0 ∧ v = false ∧ tickListen v r x = { x with timeoutCnt := x.timeoutCnt - 1 }) := by
  by_cases h : x.timeoutCnt = 0#32 <;> cases v <;> simp [tickListen, h]

/-- The stop bit (R176): the first-half level is tested before the parity. -/
theorem stopBit_cases (last : Bool) (r : TimerResult) (x : Transceiver) :
    (last = false ∧ stopBit last r x = raiseProtocolError .invalidStopBit r x) ∨
    (last = true ∧ parityOK x.data = false ∧ stopBit last r x = raiseProtocolError .parityError r x) ∨
    (last = true ∧ parityOK x.data = true ∧ stopBit last r x = finishIn .received r x) := by
  cases last <;> cases h : parityOK x.data <;> simp [stopBit, h]

/-- A reading tick (R172, R174): everything it can do. -/
theorem tickRead_cases (v : Bool) (r : TimerResult) (x : Transceiver) :
    (v = lastSample x.capture ∧ isStalled x.capture = true ∧
      tickRead v r x = raiseProtocolError .noChangeTooLong r x) ∨
    (v = lastSample x.capture ∧ isStalled x.capture = false ∧ tickRead v r x = appendSample v x) ∨
    (v ≠ lastSample x.capture ∧ x.clock = true ∧ isFull x.capture = true ∧
      tickRead v r x = raiseProtocolError .noTransition r x) ∨
    (v ≠ lastSample x.capture ∧ x.clock ≠ isFull x.capture ∧ x.bitPos = 33 ∧
      tickRead v r x = stopBit (lastSample x.capture) r x) ∨
    (v ≠ lastSample x.capture ∧ x.clock ≠ isFull x.capture ∧ x.bitPos ≠ 33 ∧
      tickRead v r x = appendSample v
        { x with
          data := shiftIn x.data (lastSample x.capture)
          bitPos := x.bitPos + 1
          clock := false
          capture := 1 }) ∨
    (v ≠ lastSample x.capture ∧ x.clock = false ∧ isFull x.capture = false ∧
      tickRead v r x = appendSample v { x with clock := true, capture := 1 }) := by
  by_cases hv : v = lastSample x.capture
  · cases h : isStalled x.capture <;> simp [tickRead, hv, h]
  · by_cases hb : x.bitPos = 33#6 <;> cases hc : x.clock <;> cases hf : isFull x.capture <;>
      simp [tickRead, dataPoint, edgeCase, lastSlot, hv, hb, hc, hf]

/-- A writing tick (R200): a first half-slot, the end of the stop bit, or the end of another slot. -/
theorem tickWrite_cases (b : Bool) (r : TimerResult) (x : Transceiver) :
    (x.clock = true ∧ tickWrite b r x = { x with lineOut := !b, clock := false }) ∨
    (x.clock = false ∧ x.bitPos = 0 ∧
      tickWrite b r x = finishIn .sent r { x with lineOut := b, clock := true }) ∨
    (x.clock = false ∧ x.bitPos ≠ 0 ∧
      tickWrite b r x = { x with lineOut := b, clock := true, bitPos := x.bitPos - 1 }) := by
  by_cases hb : x.bitPos = 0#6 <;> cases hc : x.clock <;> simp [tickWrite, lineDrive, hb, hc]

/-- Slot `p` exists exactly for `p <= 33` (R201). -/
theorem slotBit_isSome (data : Word) (pos : BitVec 6) : (slotBit data pos).isSome = true ↔ pos.toNat ≤ 33 := by
  by_cases h33 : pos = 33#6
  · simp [slotBit, lastSlot, h33]
  · by_cases h0 : pos = 0#6
    · simp [slotBit, h0]
    · have h : pos.toNat ≠ 33 := fun h => h33 (BitVec.eq_of_toNat_eq (by simpa using h))
      by_cases hle : pos.toNat ≤ 32
      · simp [slotBit, lastSlot, frameBits, h33, h0, hle]; omega
      · simp [slotBit, lastSlot, frameBits, h33, h0, hle]; omega

/-- The identifiers are all there, each once. -/
theorem mem_allIdents (i : Ident) : i ∈ allIdents := by
  simp only [allIdents, List.mem_map, List.mem_range]
  exact ⟨i.toNat, i.isLt, by simp⟩

theorem allIdents_nodup : allIdents.Nodup := by
  refine List.Nodup.map_on ?_ List.nodup_range
  intro a ha b hb h
  have := congrArg BitVec.toNat h
  simp only [List.mem_range, BitVec.toNat_ofNat] at *
  omega

@[simp] theorem allIdents_length : allIdents.length = 256 := by simp [allIdents]

section writeRot
variable (l : List Ident) (rest : Vector Ident 256) (c : Scheduler)
@[simp] theorem Scheduler.writeRot_order : (c.writeRot l rest).order = c.order := rfl
@[simp] theorem Scheduler.writeRot_configured : (c.writeRot l rest).configured = c.configured := rfl
@[simp] theorem Scheduler.writeRot_rotLen : (c.writeRot l rest).rotLen = BitVec.ofNat 9 l.length := rfl
@[simp] theorem Scheduler.writeRot_cursor : (c.writeRot l rest).cursor = c.cursor := rfl
@[simp] theorem Scheduler.writeRot_phase : (c.writeRot l rest).phase = c.phase := rfl
@[simp] theorem Scheduler.writeRot_convStart : (c.writeRot l rest).convStart = c.convStart := rfl
@[simp] theorem Scheduler.writeRot_convStartValid : (c.writeRot l rest).convStartValid = c.convStartValid := rfl
@[simp] theorem Scheduler.writeRot_convEnd : (c.writeRot l rest).convEnd = c.convEnd := rfl
@[simp] theorem Scheduler.writeRot_convEndValid : (c.writeRot l rest).convEndValid = c.convEndValid := rfl
@[simp] theorem Scheduler.writeRot_failed : (c.writeRot l rest).failed = c.failed := rfl
@[simp] theorem Scheduler.writeRot_setupDone : (c.writeRot l rest).setupDone = c.setupDone := rfl
@[simp] theorem Scheduler.writeRot_cfgSync : (c.writeRot l rest).cfgSync = c.cfgSync := rfl
@[simp] theorem Scheduler.writeRot_cfgTimeoutMs : (c.writeRot l rest).cfgTimeoutMs = c.cfgTimeoutMs := rfl

/-- `rot_len` is the length of the list written (R34). -/
theorem Scheduler.writeRot_rotLen_toNat (h : l.length ≤ 256) : (c.writeRot l rest).rotLen.toNat = l.length := by
  simp only [Scheduler.writeRot_rotLen, BitVec.toNat_ofNat]
  omega

/-- The active list is the list written (R34). -/
theorem Scheduler.writeRot_rotList (h : l.length ≤ 256) : (c.writeRot l rest).rotList = l := by
  apply List.ext_getElem
  · rw [Scheduler.rotList, Scheduler.writeRot_rotLen_toNat l rest c h]
    simp [h]
  · intro k h1 h2
    simp [Scheduler.rotList, Scheduler.writeRot, h2]
end writeRot

/-- The identifier under the cursor is the list's entry (R34, R35). -/
theorem Scheduler.current_eq (c : Scheduler) : c.current = c.rotList[c.cursor.toNat]? := by
  by_cases h : c.cursor.toNat < c.rotLen.toNat
  · simp [Scheduler.current, Scheduler.rotList, h, c.cursor.isLt]
  · simp [Scheduler.current, Scheduler.rotList, h]

/-- A list derived from the order table has at most 256 entries (R34). -/
theorem deriveInitial_length_le (p : Platform) (c : Scheduler) : (deriveInitial p c).length ≤ 256 := by
  rw [deriveInitial, List.length_insertionSort]
  exact (List.length_filter_le _ _).trans (by simp)

theorem deriveRepeating_length_le (p : Platform) (c : Scheduler) : (deriveRepeating p c).length ≤ 256 := by
  rw [deriveRepeating, List.length_insertionSort]
  exact (List.length_filter_le _ _).trans (by simp)

/-- `AdvanceCursor` (R221): the end of the list, or the next entry. -/
theorem Scheduler.advanceCursor_cases (p : Platform) (rest : Vector Ident 256) (c : Scheduler) :
    (c.cursor.toNat + 1 = c.rotLen.toNat ∧
      c.advanceCursor p rest = { c.writeRot (deriveRepeating p c) rest with phase := .repeating, cursor := 0 }) ∨
    (c.cursor.toNat + 1 ≠ c.rotLen.toNat ∧ c.advanceCursor p rest = { c with cursor := c.cursor + 1 }) := by
  by_cases h : c.cursor.toNat + 1 = c.rotLen.toNat <;> simp [Scheduler.advanceCursor, h]

/-- `SETUP`'s list (R217): the startup list, or the repeating list when there is nothing to poll at startup. -/
theorem Scheduler.startRotation_cases (p : Platform) (rest : Vector Ident 256) (c : Scheduler) :
    (deriveInitial p c ≠ [] ∧
      c.startRotation p rest = { c.writeRot (deriveInitial p c) rest with cursor := 0, phase := .initial }) ∨
    (deriveInitial p c = [] ∧
      c.startRotation p rest = { c.writeRot (deriveRepeating p c) rest with cursor := 0, phase := .repeating }) := by
  cases h : deriveInitial p c <;> simp [Scheduler.startRotation, h]

/-- `AdvanceCursor` and `SETUP`'s derivation leave the configuration alone. -/
@[simp] theorem Scheduler.advanceCursor_order (p : Platform) (rest : Vector Ident 256) (c : Scheduler) :
    (c.advanceCursor p rest).order = c.order := by
  rcases c.advanceCursor_cases p rest with ⟨_, e⟩ | ⟨_, e⟩ <;> simp [e]

@[simp] theorem Scheduler.advanceCursor_configured (p : Platform) (rest : Vector Ident 256) (c : Scheduler) :
    (c.advanceCursor p rest).configured = c.configured := by
  rcases c.advanceCursor_cases p rest with ⟨_, e⟩ | ⟨_, e⟩ <;> simp [e]

@[simp] theorem Scheduler.startRotation_order (p : Platform) (rest : Vector Ident 256) (c : Scheduler) :
    (c.startRotation p rest).order = c.order := by
  rcases c.startRotation_cases p rest with ⟨_, e⟩ | ⟨_, e⟩ <;> simp [e]

@[simp] theorem Scheduler.startRotation_configured (p : Platform) (rest : Vector Ident 256) (c : Scheduler) :
    (c.startRotation p rest).configured = c.configured := by
  rcases c.startRotation_cases p rest with ⟨_, e⟩ | ⟨_, e⟩ <;> simp [e]

/-- What `CFG_MSG` leaves in the order table (R215). -/
@[simp] theorem Scheduler.orderOf_configure (c : Scheduler) (id : Ident) (o : Byte) (j : Ident) :
    (c.configure id o).orderOf j = if j = id then o else c.orderOf j := by
  by_cases h : j = id
  · subst h; simp [Scheduler.configure, Scheduler.orderOf]
  · have : id.toNat ≠ j.toNat := fun e => h (BitVec.eq_of_toNat_eq e.symm)
    simp [Scheduler.configure, Scheduler.orderOf, this, h]

@[simp] theorem Scheduler.isConfigured_configure (c : Scheduler) (id : Ident) (o : Byte) (j : Ident) :
    (c.configure id o).isConfigured j = (decide (j = id) || c.isConfigured j) := by
  by_cases h : j = id
  · subst h; simp [Scheduler.configure, Scheduler.isConfigured]
  · have : id.toNat ≠ j.toNat := fun e => h (BitVec.eq_of_toNat_eq e.symm)
    simp [Scheduler.configure, Scheduler.isConfigured, this, h]

end Sys2Proof.Machine
end

