-- ==== Sys2Proof/Laws/Exec.lean ====
section
/-! SUPPORT. For each meaning one inversion lemma: what holds of the next state, if it answers one. -/

namespace Sys2Proof.Machine

/-- Everything `INIT` can do (R143). -/
theorem execInit_next {s t : State} (h : execInit s = .next t) :
    s.tx.inited = false ∧
    t.tx = { s.tx with
      lineOut := true, inited := true, mode := .idle, initFailed := s.tx.initFailed || !s.platform.timerAvailable } ∧
    t.sched = s.sched ∧ t.platform = s.platform ∧ t.env = s.env ∧ t.port = s.port ∧ t.out.events = [] := by
  cases hi : s.tx.inited
  · rw [execInit, hi] at h
    cases h
    exact ⟨rfl, rfl, rfl, rfl, rfl, rfl, rfl⟩
  · simp [execInit, hi] at h

/-- Everything the command `LISTEN` can do (R144). -/
theorem State.listen_next {s t : State} (h : s.listen = .next t) :
    s.tx.available = true ∧ t = s.withTx (startListening s.env s.sched.cfgTimeoutMs s.tx) := by
  rcases s.listen_cases with ⟨_, e⟩ | ⟨ha, e⟩ <;> rw [e] at h <;> cases h
  exact ⟨ha, rfl⟩

/-- Everything the command `SEND` can do (R145). -/
theorem State.send_next {f : Frame} {s t : State} (h : s.send f = .next t) :
    s.tx.available = true ∧ t = s.withTx (startSending s.env f s.tx) := by
  rcases s.send_cases f with ⟨_, e⟩ | ⟨ha, e⟩ <;> rw [e] at h <;> cases h
  exact ⟨ha, rfl⟩

/-- The two read-outs and the ticks outside the active modes write no register: what is common to their next states. -/
def SameRegisters (s t : State) : Prop :=
  t.tx = s.tx ∧ t.sched = s.sched ∧ t.platform = s.platform ∧ t.env = s.env ∧ t.port = s.port ∧ t.out.events = []

theorem execGetMessage_next {s t : State} (h : execGetMessage s = .next t) : SameRegisters s t := by
  cases h; exact ⟨rfl, rfl, rfl, rfl, rfl, rfl⟩

theorem execGetProtocolError_next {s t : State} (h : execGetProtocolError s = .next t) : SameRegisters s t := by
  cases h; exact ⟨rfl, rfl, rfl, rfl, rfl, rfl⟩

/-- Everything `TICK` can do (R170). -/
theorem execTick_next {v : Bool} {s t : State} (h : execTick v s = .next t) :
    ((s.tx.timerRun = false ∨ s.tx.mode.active = false) ∧ t = s.beginStep) ∨
    (s.tx.timerRun = true ∧ s.tx.mode = .listen ∧ t = s.beginStep.withTx (tickListen v s.env.disarm s.tx)) ∨
    (s.tx.timerRun = true ∧ s.tx.mode = .read ∧ t = s.beginStep.withTx (tickRead v s.env.disarm s.tx)) ∨
    (s.tx.timerRun = true ∧ s.tx.mode = .write ∧
      ∃ b, slotBit s.tx.data s.tx.bitPos = some b ∧ t = s.beginStep.withTx (tickWrite b s.env.disarm s.tx)) := by
  cases hr : s.tx.timerRun
  · simp [execTick, hr] at h; exact .inl ⟨.inl rfl, h.symm⟩
  · cases hm : s.tx.mode
    case write =>
      cases hb : slotBit s.tx.data s.tx.bitPos
      · simp [execTick, hr, hm, hb] at h
      · simp [execTick, hr, hm, hb] at h
        exact .inr (.inr (.inr ⟨rfl, rfl, _, rfl, h.symm⟩))
    case listen => simp [execTick, hr, hm] at h; exact .inr (.inl ⟨rfl, rfl, h.symm⟩)
    case read => simp [execTick, hr, hm] at h; exact .inr (.inr (.inl ⟨rfl, rfl, h.symm⟩))
    all_goals simp [execTick, hr, hm] at h; exact .inl ⟨.inr rfl, h.symm⟩

/-- Everything `CFG_MSG` can do (R215). -/
theorem execCfgMsg_next {id : Ident} {order : Byte} {s t : State} (h : execCfgMsg id order s = .next t) :
    s.sched.setupDone = false ∧ t = s.beginStep.withSched (s.sched.configure id order) := by
  cases hd : s.sched.setupDone <;> simp [execCfgMsg, hd] at h
  exact ⟨rfl, h.symm⟩

/-- Everything `CFG_CTRL` can do (R216). -/
theorem execCfgCtrl_next {sync : Bool} {ms : BitVec 30} {s t : State} (h : execCfgCtrl sync ms s = .next t) :
    s.sched.setupDone = false ∧ ms.toNat ≤ maxTimeoutMs ∧
    t = s.beginStep.withSched { s.sched with cfgSync := sync, cfgTimeoutMs := ms.setWidth 32 } := by
  unfold execCfgCtrl at h
  split at h
  · cases h
  rename_i hd
  split at h <;> cases h
  exact ⟨Bool.eq_false_of_not_eq_true hd, Nat.not_lt.mp ‹_›, rfl⟩

/-- Everything `SETUP` can do (R217). -/
theorem execSetup_next {s t : State} (h : execSetup s = .next t) :
    s.sched.setupDone = false ∧ s.tx.inited = true ∧
    t.tx = s.tx ∧ t.platform = s.platform ∧ t.env = s.env ∧ t.port = s.port ∧
    ((s.tx.initFailed = true ∧ t.sched = { s.sched with setupDone := true, failed := true } ∧
        t.out = ⟨.ack false, [.setupFailed]⟩) ∨
     (s.tx.initFailed = false ∧ t.sched = { s.sched.startRotation s.platform s.env.rotRest with setupDone := true } ∧
        t.out = ⟨.ack true, []⟩)) := by
  unfold execSetup at h
  split at h
  · cases h
  rename_i hd
  split at h
  · cases h
  rename_i hi
  have hd := Bool.eq_false_of_not_eq_true hd
  have hi := Bool.eq_true_of_not_eq_false hi
  split at h <;> cases h
  · exact ⟨hd, hi, rfl, rfl, rfl, rfl, .inl ⟨‹_›, rfl, rfl⟩⟩
  · exact ⟨hd, hi, rfl, rfl, rfl, rfl, .inr ⟨Bool.eq_false_of_not_eq_true ‹_›, rfl, rfl⟩⟩

/-- Everything `START_CONVERSATION` can do (R224). -/
theorem State.startConversation_next {now : Millis} {id0 : Ident} {s t : State}
    (h : s.startConversation now id0 = .next t) :
    s.tx.available = true ∧
    t.tx = startSending s.env (s.env.preSend (s.env.buildRequest id0).1) s.tx ∧
    t.sched = { s.sched with convStart := now, convStartValid := true } ∧
    t.platform = s.platform ∧ t.env = s.env ∧ t.port = s.port ∧
    t.out.response = s.out.response ∧
    t.out.events = s.out.events ++
      ((s.env.buildRequest id0).2 ++ [(s.env.preSend (s.env.buildRequest id0).1).requestEvent]) := by
  obtain ⟨ha, rfl⟩ := State.send_next h
  exact ⟨ha, rfl, rfl, rfl, rfl, rfl, rfl, rfl⟩

/-- Everything `LOOP` can do (R225): nothing, because the component is failed, the gap is pending, the list is empty, or an
operation is under way; or one of the cases of R226 to R232. -/
theorem execLoop_next {now : Millis} {s t : State} (h : execLoop now s = .next t) :
    s.sched.setupDone = true ∧
    (t = s.beginStep ∨
     s.sched.failed = false ∧
      ((s.tx.mode = .sent ∧ s.beginStep.listen = .next t) ∨
       (s.tx.mode = .received ∧ t = s.beginStep.loopReceived now) ∨
       (s.tx.mode = .errorProtocol ∧ t = s.beginStep.loopProtocolError now) ∨
       (s.tx.mode = .errorTimeout ∧ t = s.beginStep.loopTimeout now) ∨
       (s.tx.mode = .errorTimer ∧ t = s.beginStep.loopTimerError now) ∨
       (s.tx.mode.active = true ∧ ceilingPassed now s.sched = true ∧ t = s.beginStep.loopTimeout now) ∨
       (s.tx.mode = .idle ∧ gapPending now s.sched = false ∧ ∃ id0, s.sched.current = some id0 ∧
          (s.beginStep.emit
            (if budgetExceeded s.sched then [.budgetWarning (lastDuration s.sched)] else [])).startConversation now id0 =
            .next t))) := by
  cases hd : s.sched.setupDone
  · simp [execLoop, hd] at h
  refine ⟨rfl, ?_⟩
  cases hf : s.sched.failed
  swap
  · simp [execLoop, hd, hf] at h; exact .inl h.symm
  cases hm : s.tx.mode
  case sent => simp [execLoop, hd, hf, hm] at h; exact .inr ⟨rfl, .inl ⟨rfl, h⟩⟩
  case received => simp [execLoop, hd, hf, hm] at h; exact .inr ⟨rfl, .inr (.inl ⟨rfl, h.symm⟩)⟩
  case errorProtocol => simp [execLoop, hd, hf, hm] at h; exact .inr ⟨rfl, .inr (.inr (.inl ⟨rfl, h.symm⟩))⟩
  case errorTimeout => simp [execLoop, hd, hf, hm] at h; exact .inr ⟨rfl, .inr (.inr (.inr (.inl ⟨rfl, h.symm⟩)))⟩
  case errorTimer => simp [execLoop, hd, hf, hm] at h; exact .inr ⟨rfl, .inr (.inr (.inr (.inr (.inl ⟨rfl, h.symm⟩))))⟩
  case idle =>
    simp [execLoop, hd, hf, hm, State.loopIdle] at h
    cases hg : gapPending now s.sched
    · by_cases hr : s.sched.rotLen = 0#9
      · simp [hg, hr] at h; exact .inl h.symm
      · cases hc : s.sched.current
        · simp [hg, hr, hc] at h
        · simp [hg, hr, hc] at h
          exact .inr ⟨rfl, .inr (.inr (.inr (.inr (.inr (.inr ⟨rfl, rfl, _, rfl, h⟩)))))⟩
    · simp [hg] at h; exact .inl h.symm
  all_goals
    simp [execLoop, hd, hf, hm, State.loopActive] at h
    cases hp : ceilingPassed now s.sched <;> simp [hp] at h
    · exact .inl h.symm
    · exact .inr ⟨rfl, .inr (.inr (.inr (.inr (.inr (.inl ⟨rfl, rfl, h.symm⟩)))))⟩

section loopParts
variable (now : Millis) (s : State)

@[simp] theorem State.loopTimeout_tx : (s.loopTimeout now).tx = stopTransceiver s.env.disarm s.tx := rfl
@[simp] theorem State.loopTimeout_sched :
    (s.loopTimeout now).sched = { s.sched with convEnd := now, convEndValid := true } := rfl
@[simp] theorem State.loopTimeout_events : (s.loopTimeout now).out.events = s.out.events ++ [.timeout] := rfl
@[simp] theorem State.loopProtocolError_tx :
    (s.loopProtocolError now).tx = stopTransceiver s.env.disarm s.tx := rfl
@[simp] theorem State.loopProtocolError_sched :
    (s.loopProtocolError now).sched = { s.sched with convEnd := now, convEndValid := true } := rfl
@[simp] theorem State.loopTimerError_tx : (s.loopTimerError now).tx = stopTransceiver s.env.disarm s.tx := rfl
@[simp] theorem State.loopTimerError_sched :
    (s.loopTimerError now).sched = { s.sched with convEnd := now, convEndValid := true, failed := true } := rfl
@[simp] theorem State.loopReceived_tx : (s.loopReceived now).tx = stopTransceiver s.env.disarm s.tx := rfl
@[simp] theorem State.loopReceived_sched :
    (s.loopReceived now).sched =
      { s.sched.advanceCursor s.platform s.env.rotRest with convEnd := now, convEndValid := true } := rfl
end loopParts

end Sys2Proof.Machine
end

