-- ==== Sys2Proof/Laws/PerInstr.lean ====
section
/-! SUPPORT. Statements made once per operation. The family `EncodeRow` says that the encoder's word belongs to the operation's
own row of the opcode table. -/

namespace Sys2Proof

@[simp] theorem opOf_encode (i : Instr) : opOf (encode i) = i.op := by
  apply BitVec.eq_of_getLsbD_eq
  intro k hk
  have h : k < 4 := hk
  simp only [opOf, encode, BitVec.getLsbD_extractLsb', BitVec.getLsbD_or, getLsbD_place]
  simp [h, show 32 + k < 36 by omega]

@[simp] theorem argOf_encode (i : Instr) : argOf (encode i) = i.arg := by
  apply BitVec.eq_of_getLsbD_eq
  intro k hk
  have h : k < 32 := hk
  simp only [argOf, encode, BitVec.getLsbD_extractLsb', BitVec.getLsbD_or, getLsbD_place]
  simp [h, show k < 36 by omega, show ¬ 32 ≤ k by omega]

end Sys2Proof

namespace Sys2Proof.Laws.EncodeRow

/-- Some row of spec/opcode_table.json has the operation's mnemonic, and the encoder's word belongs to that row. -/
def Statement (i : Instr) : Prop := ∃ r ∈ opcodeTable, r.mnemonic = i.mnemonic ∧ r.matches (encode i) = true

theorem init : Statement .init := ⟨⟨"INIT", 0x000000000, 0xFFFFFFFFF⟩, by simp [opcodeTable], rfl, by decide⟩

theorem listen : Statement .listen := ⟨⟨"LISTEN", 0x100000000, 0xFFFFFFFFF⟩, by simp [opcodeTable], rfl, by decide⟩

theorem send (ty : BitVec 3) (id : Ident) (hb lb : Byte) : Statement (.send ty id hb lb) := by
  refine ⟨⟨"SEND", 0x200000000, 0xF8F000000⟩, by simp [opcodeTable], rfl, ?_⟩
  simp only [OpcodeRow.matches, encode, Instr.op, Instr.arg, beq_iff_eq]
  apply BitVec.eq_of_getLsbD_eq
  intro k hk
  interval_cases k <;> simp

theorem getMessage : Statement .getMessage :=
  ⟨⟨"GET_MESSAGE", 0x300000000, 0xFFFFFFFFF⟩, by simp [opcodeTable], rfl, by decide⟩

theorem getProtocolError : Statement .getProtocolError :=
  ⟨⟨"GET_PROTOCOL_ERROR", 0x400000000, 0xFFFFFFFFF⟩, by simp [opcodeTable], rfl, by decide⟩

theorem stop : Statement .stop := ⟨⟨"STOP", 0x500000000, 0xFFFFFFFFF⟩, by simp [opcodeTable], rfl, by decide⟩

theorem tick (v : Bool) : Statement (.tick v) :=
  ⟨⟨"TICK", 0x600000000, 0xFFFFFFFFE⟩, by simp [opcodeTable], rfl, by cases v <;> decide⟩

theorem cfgMsg (id : Ident) (order : Byte) : Statement (.cfgMsg id order) := by
  refine ⟨⟨"CFG_MSG", 0x700000000, 0xFFFFF0000⟩, by simp [opcodeTable], rfl, ?_⟩
  simp only [OpcodeRow.matches, encode, Instr.op, Instr.arg, beq_iff_eq]
  apply BitVec.eq_of_getLsbD_eq
  intro k hk
  interval_cases k <;> simp

theorem cfgCtrl (sync : Bool) (timeoutMs : BitVec 30) : Statement (.cfgCtrl sync timeoutMs) := by
  refine ⟨⟨"CFG_CTRL", 0x800000000, 0xF40000000⟩, by simp [opcodeTable], rfl, ?_⟩
  simp only [OpcodeRow.matches, encode, Instr.op, Instr.arg, beq_iff_eq]
  apply BitVec.eq_of_getLsbD_eq
  intro k hk
  interval_cases k <;> simp

theorem setup : Statement .setup := ⟨⟨"SETUP", 0x900000000, 0xFFFFFFFFF⟩, by simp [opcodeTable], rfl, by decide⟩

theorem loop (now : Millis) : Statement (.loop now) := by
  refine ⟨⟨"LOOP", 0xA00000000, 0xF00000000⟩, by simp [opcodeTable], rfl, ?_⟩
  simp only [OpcodeRow.matches, encode, Instr.op, Instr.arg, beq_iff_eq]
  apply BitVec.eq_of_getLsbD_eq
  intro k hk
  interval_cases k <;> simp

end Sys2Proof.Laws.EncodeRow
end

