-- ==== Sys2Proof/Tests/Slice0.lean ====
section
/-! SUPPORT. The row's own tests. First the smoke tests of `WellFormed` and of the decoder, then one or two single steps per
operation with the results of 95_test_vectors.md, then for every statement with hypotheses a witness that meets them, clause by
clause and at the boundary of each range. -/

namespace Sys2Proof.Tests

open Sys2Proof Sys2Proof.Machine

/-! ### Well-formedness and command words -/

/-- R117, V18 (f): the one check there is, on both sides of its limit. -/
theorem test_wellFormed_timeout :
    (Instr.cfgCtrl false 858993460).wellFormed = false ∧ (Instr.cfgCtrl true 858993459).wellFormed = true := by decide

/-- R115, R116: op 0x0 to 0x5 and 0x9 with every argument bit 0. -/
theorem test_decode_bare :
    decode 0b0000_0000_0000_0000_0000_0000_0000_0000_0000 = .ok .init ∧
    decode 0b0001_0000_0000_0000_0000_0000_0000_0000_0000 = .ok .listen ∧
    decode 0b0011_0000_0000_0000_0000_0000_0000_0000_0000 = .ok .getMessage ∧
    decode 0b0100_0000_0000_0000_0000_0000_0000_0000_0000 = .ok .getProtocolError ∧
    decode 0b0101_0000_0000_0000_0000_0000_0000_0000_0000 = .ok .stop ∧
    decode 0b1001_0000_0000_0000_0000_0000_0000_0000_0000 = .ok .setup := by decide

/-- R116: op, 0, type 101, 0000, id, hb, lb. -/
theorem test_decode_send :
    decode 0b0010_0_101_0000_10000011_11000101_00010111 = .ok (.send 0b101 0b10000011 0b11000101 0b00010111) := by decide

/-- R116: op, 31 zeros, v. -/
theorem test_decode_tick :
    decode 0b0110_0000_0000_0000_0000_0000_0000_0000_0001 = .ok (.tick true) ∧
    decode 0b0110_0000_0000_0000_0000_0000_0000_0000_0000 = .ok (.tick false) := by decide

/-- R116: op, 16 zeros, id 25, order 255. -/
theorem test_decode_cfgMsg : decode 0b0111_0000_0000_0000_0000_00011001_11111111 = .ok (.cfgMsg 25 255) := by decide

/-- R116: op, sync, 0, timeout 800 in 30 bits. -/
theorem test_decode_cfgCtrl :
    decode 0b1000_1_0_0000_0000_0000_0000_0000_1100_1000_00 = .ok (.cfgCtrl true 800) := by decide

/-- R116: op, the clock in 32 bits. -/
theorem test_decode_loop :
    decode 0b1010_1000_0000_0000_0000_0000_0000_0000_0011 = .ok (.loop 0x80000003) := by decide

/-- R117, X1, X2: unassigned operations and must-be-zero bits. -/
theorem test_decode_rejects :
    decode 0xB00000000 = .error .unassignedOperation ∧ decode 0xF00000000 = .error .unassignedOperation ∧
    decode 0x000000001 = .error .reservedBitSet ∧ decode 0x200000000 ≠ .error .reservedBitSet ∧
    decode 0x280000000 = .error .reservedBitSet ∧ decode 0x201000000 = .error .reservedBitSet ∧
    decode 0x600000002 = .error .reservedBitSet ∧ decode 0x700010000 = .error .reservedBitSet ∧
    decode 0x840000000 = .error .reservedBitSet := by decide

/-- R117, X6: `CFG_CTRL` on both sides of its limit. -/
theorem test_decode_timeout_limit :
    decode 0x8B3333333 = .ok (.cfgCtrl true 858993459) ∧ decode 0x833333334 = .error .timeoutOutOfRange := by decide

/-! ### States -/

/-- A transceiver after a successful `INIT`. -/
def ready : Transceiver := { Transceiver.reset with inited := true }

/-- A transceiver that listens, four ticks from its timeout. -/
def listening : Transceiver := { ready with mode := .listen, timerRun := true, timeoutCnt := 4 }

/-- A transceiver that reads, with given decoder registers. -/
def reading (data : Word) (bitPos : BitVec 6) (capture : BitVec 16) (clock : Bool) : Transceiver :=
  { ready with mode := .read, timerRun := true, data, bitPos, capture, clock }

/-- A transceiver that sends slot `bitPos` of `0x80000000` (V1). -/
def sending (bitPos : BitVec 6) (clock : Bool) : Transceiver :=
  { ready with mode := .write, timerRun := true, timerRate := .tx, data := 0x80000000, bitPos, clock }

/-- A transceiver in a mode, with the timer stopped. -/
def inMode (m : Mode) : Transceiver := { ready with mode := m }

/-- A scheduler after `SETUP`, with two startup identifiers. -/
def rotating : Scheduler :=
  { ((Scheduler.reset.configure 125 0).configure 3 254).writeRot [125, 3] (Vector.replicate 256 0) with
    setupDone := true, cfgTimeoutMs := 800, cfgSync := true }

/-- `rotating` after a conversation from 0 to `stop`. -/
def ended (stop : Millis) : Scheduler := { rotating with convStartValid := true, convEnd := stop, convEndValid := true }

/-- A state with these two records. -/
def stateWith (x : Transceiver) (c : Scheduler) : State := { State.reset with tx := x, sched := c }

/-- The same in an environment whose disarm fails. -/
def disarmFails (s : State) : State := { s with env := { s.env with disarm := .fail } }

/-- The same in an environment whose arm fails. -/
def armFails (s : State) : State := { s with env := { s.env with arm := .fail } }

/-- The same with one command word at the port. -/
def offered (w : CommandWord) (s : State) : State := { s with port := [⟨w, Env.quiet⟩] }

/-- The transceiver record of an answer that is a next state. -/
def txOf (r : Result) : Option Transceiver := (stateOf r).map (·.tx)

/-! ### One step at a time -/

/-- R143's example: `INIT` from reset. -/
theorem test_init : txOf (exec .init State.reset) = some { Transceiver.reset with inited := true } := by decide

/-- R143: without a timer the answer is `ok = 0` and `init_failed` is set. -/
theorem test_init_no_timer :
    (stateOf (exec .init (State.resetOn { Platform.standard with timerAvailable := false }))).map
      (fun t => (t.tx.initFailed, t.tx.mode, t.out.response)) = some (true, .idle, .ack false) := by decide

/-- R144's example: in `SENT` with `cfg_timeout_ms = 800`. -/
theorem test_listen :
    txOf (exec .listen (stateWith { inMode .sent with data := 0x80000000 } rotating)) =
      some { ready with mode := .listen, timeoutCnt := 4000, timerRun := true } := by decide

/-- R142 (b): refused before `INIT`. -/
theorem test_listen_refused : exec .listen State.reset = .refused .transceiverUnavailable := by rfl

/-- R145's example: the all-zero request has frame word `0x80000000` (L8). -/
theorem test_send :
    txOf (exec (.send 0 0 0 0) (stateWith ready rotating)) = some (sending 33 true) := by decide

/-- V17, V4: the parity bit of `(4, 25, 0x2D, 0x40)` is 0, that of `(1, 1, 0x15, 0x80)` is 1. -/
theorem test_pack :
    Frame.pack ⟨4, 25, 0x2D, 0x40⟩ = 0x40192D40 ∧ Frame.pack ⟨1, 1, 0x15, 0x80⟩ = 0x90011580 ∧
    Frame.pack ⟨7, 255, 0xFF, 0xFE⟩ = 0xF0FFFFFE := by decide

/-- R146's example. -/
theorem test_getMessage :
    (stateOf (exec .getMessage (stateWith { inMode .received with data := 0x40192D40 } rotating))).map (·.out.response) =
      some (.message true 0x40192D40) := by decide

/-- R146: a frame with a parity error is in `data` and is not returned. -/
theorem test_getMessage_parity_error :
    (stateOf (exec .getMessage (stateWith { inMode .errorProtocol with data := 0xC0192D40 } rotating))).map
      (·.out.response) = some (.message false 0) := by decide

/-- R147's example (V12): `err = 1`, `bit_pos = 0`, `clock = 1`, `capture = 0x1F`. -/
theorem test_getProtocolError :
    (stateOf (exec .getProtocolError
      (stateWith { inMode .errorProtocol with err := .noTransition, capture := 0x1F, clock := true } rotating))).map
      (·.out.response) = some (.protocolError (some 0b001_000000_1_0000000000011111)) := by decide

/-- V19: `STOP` after three ticks of a `SEND` leaves the line low. -/
theorem test_stop :
    txOf (exec .stop (stateWith { sending 32 false with lineOut := false } rotating)) =
      some { sending 32 false with lineOut := false, mode := .idle, timerRun := false } := by decide

/-- R148: a failed disarm shows only in `terr`. -/
theorem test_stop_disarm_fails :
    txOf (exec .stop (disarmFails (stateWith listening rotating))) =
      some { listening with mode := .idle, terr := .disarm } := by decide

/-- R172's example: the start bit's mid-bit transition. -/
theorem test_tick_read :
    txOf (exec (.tick false) (stateWith (reading 0 0 0b111 true) rotating)) = some (reading 1 1 0b10 false) := by decide

/-- V1, tick 68: the second half of the stop bit ends in `SENT` with the line high. -/
theorem test_tick_write :
    txOf (exec (.tick false) (stateWith { sending 0 false with lineOut := false } rotating)) =
      some { sending 0 true with mode := .sent, timerRun := false, lineOut := true } := by decide

/-- R215's example. -/
theorem test_cfgMsg :
    (stateOf (exec (.cfgMsg 25 255) State.reset)).map
      (fun t => (t.sched.isConfigured 25, t.sched.orderOf 25)) = some (true, 255) := by
  simp [exec, execCfgMsg, State.reset, State.resetOn, Scheduler.reset, stateOf]

/-- R216's example. -/
theorem test_cfgCtrl :
    (stateOf (exec (.cfgCtrl false 800) State.reset)).map (fun t => (t.sched.cfgSync, t.sched.cfgTimeoutMs)) =
      some (false, 800) := by decide

/-- R217: `SETUP` with nothing configured goes straight to `REPEATING` with an empty list. -/
theorem test_setup_empty :
    (stateOf (exec .setup (stateWith ready Scheduler.reset))).map
      (fun t => (t.sched.rotLen, t.sched.phase, t.sched.setupDone, t.out.response)) =
      some (0, .repeating, true, .ack true) := by decide +kernel

/-- R217, R218: the startup list stands in `rot[0]`, `rot[1]`, in ascending order of order value. -/
theorem test_setup_startup :
    (stateOf (exec .setup (stateWith ready ((Scheduler.reset.configure 3 2).configure 125 0)))).map
      (fun t => (t.sched.rot[0], t.sched.rot[1], t.sched.rotLen, t.sched.phase)) = some (125, 3, 2, .initial) := by
  decide +kernel

/-- R224's example: the request for identifier 125 at `now = 1000`. -/
theorem test_loop_starts :
    (stateOf (exec (.loop 1000)
      { stateWith ready rotating with env := { Env.quiet with readHandlers := [125] } })).map
      (fun t => (t.tx.data, t.tx.mode, t.sched.convStart, t.out.events)) =
      some (0x807D0000, .write, 1000, [.request 125 0 0 0]) := by decide +kernel

/-- R227's example: a response received at `now = 1464`. -/
theorem test_loop_received :
    (stateOf (exec (.loop 1464) (stateWith { inMode .received with data := 0x40192D40 }
      { rotating with rotLen := 5, cursor := 2 }))).map
      (fun t => (t.tx.mode, t.sched.cursor, t.sched.convEnd, t.out.events)) =
      some (.idle, 3, 1464, [.response 4 25 0x2D 0x40]) := by decide

/-! ### Witnesses: the command word -/

theorem witness_DecodeOfEncodeIsTheOperation : (Instr.cfgCtrl true 858993459).wellFormed = true := by decide

theorem witness_AcceptedWordIsItsOperationsWord : decode 0x8B3333333 = .ok (.cfgCtrl true 858993459) := by decide

theorem witness_AcceptedWordsAreTheTablesRows :
    decode 0x2F0FFFFFF = .error .reservedBitSet ∧ decode 0x270FFFFFF = .ok (.send 7 255 255 255) ∧
    (⟨"SEND", 0x200000000, 0xF8F000000⟩ : OpcodeRow) ∈ opcodeTable := by decide

theorem witness_IllegalCommandWordsAreRefused_unassigned :
    (offered 0xB00000000 State.reset).port = ⟨0xB00000000, Env.quiet⟩ :: [] ∧
    0xB ≤ ((0xB00000000 : CommandWord).extractLsb' 32 4).toNat := ⟨rfl, by decide⟩

theorem witness_IllegalCommandWordsAreRefused_reserved :
    (offered 0x900000001 State.reset).port = ⟨0x900000001, Env.quiet⟩ :: [] ∧
    ((0x900000001 : CommandWord).extractLsb' 32 4).toNat ≤ 0xA ∧
    ∀ r ∈ opcodeTable, r.matches 0x900000001 = false := ⟨rfl, by decide, by decide⟩

theorem witness_IllegalCommandWordsAreRefused_timeout :
    (offered 0x833333334 State.reset).port = ⟨0x833333334, Env.quiet⟩ :: [] ∧
    (∃ r ∈ opcodeTable, r.matches 0x833333334 = true ∧ r.mnemonic = "CFG_CTRL") ∧
    858993459 < ((0x833333334 : CommandWord).extractLsb' 0 30).toNat := ⟨rfl, by decide, by decide⟩

theorem witness_StepRunsTheDecodedCommand :
    State.reset.port = [] ∧
    (offered 0x000000000 State.reset).port = ⟨0x000000000, Env.quiet⟩ :: [] ∧ decode 0x000000000 = .ok .init ∧
    (offered 0xF00000000 State.reset).port = ⟨0xF00000000, Env.quiet⟩ :: [] ∧
    decode 0xF00000000 = .error .unassignedOperation := ⟨rfl, rfl, by decide, rfl, by decide⟩

/-! ### Witnesses: the invariant -/

/-- A state that meets the invariant, in the middle of a listen, with one word at the port. -/
def listeningWith (w : CommandWord) : State := offered w (stateWith listening rotating)

theorem rotating_rotList : rotating.rotList = [125, 3] :=
  Scheduler.writeRot_rotList [125, 3] _ ((Scheduler.reset.configure 125 0).configure 3 254) (by decide)

theorem rotating_inv : SchedInv rotating where
  rotLen_le := by decide
  rot_nodup := by rw [rotating_rotList]; decide
  rot_configured := by
    rw [rotating_rotList]
    simp [rotating, Scheduler.isConfigured, Scheduler.configure]
  cursor_lt _ := by decide
  timeout_le := by decide

theorem listeningWith_inv (w : CommandWord) : BlockInv (listeningWith w) where
  tx := by constructor <;> simp [listeningWith, offered, stateWith, listening, ready, Transceiver.reset, Mode.active,
    Transceiver.available]
  sched := rotating_inv
  setup_inited _ := rfl
  setup_failed _ h := absurd h (by simp [listeningWith, offered, stateWith, listening, ready, Transceiver.reset])

theorem witness_EveryStepKeepsTheInvariant :
    BlockInv (listeningWith 0x600000001) ∧ ∃ t, step (listeningWith 0x600000001) = .next t :=
  ⟨listeningWith_inv _, _, rfl⟩

theorem witness_NoFaultWhereTheInvariantHolds : BlockInv (listeningWith 0x600000001) := listeningWith_inv _

theorem witness_AbsentEntriesFault_slot :
    (stateWith (sending 34 true) rotating).tx.timerRun = true ∧ (stateWith (sending 34 true) rotating).tx.mode = .write ∧
    33 < (stateWith (sending 34 true) rotating).tx.bitPos.toNat := by decide

theorem witness_AbsentEntriesFault_rotation :
    let s := stateWith ready { ended 900 with cursor := 2 }
    s.sched.setupDone = true ∧ s.sched.failed = false ∧ s.tx.mode = .idle ∧
    (s.sched.convEndValid = true → 100 ≤ ((1000 : Millis) - s.sched.convEnd).toNat) ∧ s.sched.rotLen ≠ 0 ∧
    s.sched.rotLen.toNat ≤ s.sched.cursor.toNat := by decide

/-! ### Witnesses: the transceiver commands -/

theorem witness_PackedFrameLayout :
    (stateWith ready rotating).DisarmObeys ∧ ∃ t, exec (.send 4 25 0x2D 0x40) (stateWith ready rotating) = .next t :=
  ⟨.inl rfl, _, rfl⟩

theorem witness_TimerPrimitiveOutcomes : ready.timerRun = false ∧ listening.timerRun = true := by decide

theorem witness_InitResult : State.reset.tx.inited = false ∧ (stateWith ready rotating).tx.inited = true := by decide

theorem witness_ListenResult_SendResult_ok :
    let s := stateWith listening rotating
    s.tx.inited = true ∧ s.tx.initFailed = false ∧ s.DisarmObeys ∧ s.env.arm = .ok := by decide

theorem witness_ListenResult_SendResult_armFails :
    let s := armFails (stateWith ready rotating)
    s.tx.inited = true ∧ s.tx.initFailed = false ∧ s.DisarmObeys ∧ s.env.arm = .fail := by decide

theorem witness_ListenResult_SendResult_disarmFails :
    let s := disarmFails (stateWith listening rotating)
    s.tx.inited = true ∧ s.tx.initFailed = false ∧ ¬ s.DisarmObeys := by decide

theorem witness_CommandsBeforeInit :
    State.reset.tx.inited = false ∧ (stateWith { ready with initFailed := true } rotating).tx.initFailed = true := by decide

/-- 100 ms after the end of a conversation, with no timer. -/
theorem witness_CommandsBeforeInit_loop :
    ∀ m : Mode, m = .sent ∨ m = .idle →
      let s := stateWith { inMode m with initFailed := true } (ended 1151)
      s.tx.initFailed = true ∧ s.sched.setupDone = true ∧ s.sched.failed = false ∧ s.tx.mode = m ∧
      (s.sched.convEndValid = true → 100 ≤ ((1251 : Millis) - s.sched.convEnd).toNat) ∧
      s.sched.cursor.toNat < s.sched.rotLen.toNat := by
  rintro m (rfl | rfl) <;> decide

theorem witness_GetMessageResult :
    (stateWith (inMode .received) rotating).tx.mode = .received ∧ (stateWith (inMode .read) rotating).tx.mode ≠ .received := by
  decide

theorem witness_GetProtocolErrorResult :
    (stateWith (inMode .errorProtocol) rotating).tx.mode = .errorProtocol ∧
    (stateWith (inMode .errorTimer) rotating).tx.mode ≠ .errorProtocol := by decide

theorem witness_StopResult :
    (stateWith ready rotating).tx.timerRun = false ∧
    ((stateWith listening rotating).tx.timerRun = true ∧ (stateWith listening rotating).env.disarm = .ok) ∧
    ((disarmFails (stateWith listening rotating)).tx.timerRun = true ∧
      (disarmFails (stateWith listening rotating)).env.disarm = .fail) := by decide

/-! ### Witnesses: the tick -/

theorem witness_TickOutsideTheActiveModes :
    let s := stateWith { listening with mode := .idle, terr := .disarm } rotating
    s.tx.timerRun = true ∧ s.tx.mode ≠ .listen ∧ s.tx.mode ≠ .read ∧ s.tx.mode ≠ .write := by decide

theorem witness_TickWithTheTimerStopped : (stateWith ready rotating).tx.timerRun = false := by decide

theorem witness_TickListening_timeout :
    let s := stateWith { listening with timeoutCnt := 0 } rotating
    s.tx.timerRun = true ∧ s.tx.mode = .listen ∧ s.tx.timeoutCnt = 0 := by decide

/-- The last sampled tick, with either sample. -/
theorem witness_TickListening_sample :
    let s := stateWith { listening with timeoutCnt := 1 } rotating
    s.tx.timerRun = true ∧ s.tx.mode = .listen ∧ s.tx.timeoutCnt ≠ 0 ∧ ∀ v : Bool, v = true ∨ v = false := by decide

/-- Case B at its age limit, and case C at its. -/
theorem witness_TickReadsADataPoint :
    (let s := stateWith (reading 1 32 0xF true) rotating
     s.tx.timerRun = true ∧ s.tx.mode = .read ∧ false ≠ s.tx.capture.getLsbD 0 ∧
     (s.tx.clock = true ∧ s.tx.capture.toNat ≤ 0xF ∨ s.tx.clock = false ∧ 0xF < s.tx.capture.toNat) ∧
     s.tx.bitPos ≠ 33) ∧
    (let s := stateWith (reading 1 0 0x10 false) rotating
     s.tx.timerRun = true ∧ s.tx.mode = .read ∧ true ≠ s.tx.capture.getLsbD 0 ∧
     (s.tx.clock = true ∧ s.tx.capture.toNat ≤ 0xF ∨ s.tx.clock = false ∧ 0xF < s.tx.capture.toNat) ∧
     s.tx.bitPos ≠ 33) := by decide

/-- Case D at its age limit, and case A at its. -/
theorem witness_TickReadsAnotherEdge :
    (let s := stateWith (reading 1 1 0xF false) rotating
     s.tx.timerRun = true ∧ s.tx.mode = .read ∧ false ≠ s.tx.capture.getLsbD 0 ∧ s.tx.clock = false ∧
     s.tx.capture.toNat ≤ 0xF) ∧
    (let s := stateWith (reading 1 1 0x10 true) rotating
     s.tx.timerRun = true ∧ s.tx.mode = .read ∧ true ≠ s.tx.capture.getLsbD 0 ∧ s.tx.clock = true ∧
     0xF < s.tx.capture.toNat) := by decide

theorem witness_TickReadsTheStopBit_low :
    let s := stateWith (reading 1 33 0x10 false) rotating
    s.tx.timerRun = true ∧ s.tx.mode = .read ∧ true ≠ s.tx.capture.getLsbD 0 ∧
    (s.tx.clock = true ∧ s.tx.capture.toNat ≤ 0xF ∨ s.tx.clock = false ∧ 0xF < s.tx.capture.toNat) ∧
    s.tx.bitPos = 33 ∧ s.tx.capture.getLsbD 0 = false := by decide

theorem witness_TickReadsTheStopBit_parity :
    let s := stateWith (reading 0xC0192D40 33 0xF true) rotating
    s.tx.timerRun = true ∧ s.tx.mode = .read ∧ false ≠ s.tx.capture.getLsbD 0 ∧
    (s.tx.clock = true ∧ s.tx.capture.toNat ≤ 0xF ∨ s.tx.clock = false ∧ 0xF < s.tx.capture.toNat) ∧
    s.tx.bitPos = 33 ∧ s.tx.capture.getLsbD 0 = true ∧ popcount s.tx.data % 2 = 0 := by decide

theorem witness_TickReadsTheStopBit_good :
    let s := stateWith (reading 0x40192D40 33 0xF true) rotating
    s.tx.timerRun = true ∧ s.tx.mode = .read ∧ false ≠ s.tx.capture.getLsbD 0 ∧
    (s.tx.clock = true ∧ s.tx.capture.toNat ≤ 0xF ∨ s.tx.clock = false ∧ 0xF < s.tx.capture.toNat) ∧
    s.tx.bitPos = 33 ∧ s.tx.capture.getLsbD 0 = true ∧ popcount s.tx.data % 2 = 1 := by decide

/-- The seventh equal sample after the edge sample is the last one accepted (V14). -/
theorem witness_TickWithoutAnEdge :
    (let s := stateWith (reading 1 1 0xFF true) rotating
     s.tx.timerRun = true ∧ s.tx.mode = .read ∧ true = s.tx.capture.getLsbD 0 ∧ s.tx.capture.toNat ≤ 0xFF) ∧
    (let s := stateWith (reading 1 1 0x100 true) rotating
     s.tx.timerRun = true ∧ s.tx.mode = .read ∧ false = s.tx.capture.getLsbD 0 ∧ 0xFF < s.tx.capture.toNat) := by
  decide

/-- The start bit, frame bits 31 and 0, and the stop bit. -/
theorem witness_TickWritesAHalfSlot :
    ∀ p ∈ [(33, true), (32, true), (1, false), (0, true)], ∀ clock : Bool,
      let s := stateWith (sending p.1 clock) rotating
      s.tx.timerRun = true ∧ s.tx.mode = .write ∧ s.tx.bitPos.toNat ≤ 33 ∧
      p.2 = (if s.tx.bitPos = 33 ∨ s.tx.bitPos = 0 then true else s.tx.data.getLsbD (s.tx.bitPos.toNat - 1)) := by
  decide +kernel

/-- 68 ticks in a quiet environment. -/
def sixtyEight : List (Bool × Env) := List.replicate 68 (false, Env.quiet)

/-- Ticks with the given samples in a quiet environment. -/
def quietly (vs : List Bool) : List (Bool × Env) := vs.map fun v => (v, Env.quiet)

theorem quietly_samples (vs : List Bool) : (quietly vs).map Prod.fst = vs := by simp [quietly, Function.comp_def]

theorem quietly_disarmOk (vs : List Bool) : DisarmOk (quietly vs) := by simp [DisarmOk, quietly, Env.quiet]

theorem sixtyEight_length : sixtyEight.length = 68 := by rw [sixtyEight, List.length_replicate]

theorem sixtyEight_disarmOk : DisarmOk sixtyEight := by
  intro t h
  rw [List.eq_of_mem_replicate h, Env.quiet]

theorem witness_EncoderDrivesTheWireFormat :
    (stateWith ready rotating).tx.available = true ∧ (stateWith ready rotating).DisarmObeys ∧
    (stateWith ready rotating).env.arm = .ok ∧ sixtyEight.length = 68 ∧ DisarmOk sixtyEight :=
  ⟨rfl, .inl rfl, rfl, sixtyEight_length, sixtyEight_disarmOk⟩

/-- V9 with the longest idle time the timeout allows; both patterns. -/
theorem witness_DecoderReceivesTheWireFormat (a b : Nat) (h : a = 3 ∧ b = 2 ∨ a = 2 ∧ b = 3) :
    let s := stateWith listening rotating
    let ts := quietly (receivedSamples a b 3 12 (wireLevels 0x40192D40))
    s.tx.mode = .listen ∧ s.tx.timerRun = true ∧ 3 < s.tx.timeoutCnt.toNat ∧ parityOK 0x40192D40 = true ∧
    (a = 3 ∧ b = 2 ∨ a = 2 ∧ b = 3) ∧ ts.map Prod.fst = receivedSamples a b 3 12 (wireLevels 0x40192D40) ∧
    DisarmOk ts :=
  ⟨rfl, rfl, by decide, by decide, h, quietly_samples _, quietly_disarmOk _⟩

theorem witness_RoundTripThroughTheLine (t : State) :
    (stateWith ready rotating).tx.available = true ∧ (stateWith ready rotating).DisarmObeys ∧
    (stateWith ready rotating).env.arm = .ok ∧ sixtyEight.length = 68 ∧ DisarmOk sixtyEight ∧
    (stateWith listening rotating).tx.mode = .listen ∧ (stateWith listening rotating).tx.timerRun = true ∧
    3 < (stateWith listening rotating).tx.timeoutCnt.toNat ∧
    (quietly (receivedSamples 2 3 3 12 (lineTrace sixtyEight t))).map Prod.fst =
      receivedSamples 2 3 3 12 (lineTrace sixtyEight t) ∧
    DisarmOk (quietly (receivedSamples 2 3 3 12 (lineTrace sixtyEight t))) :=
  ⟨rfl, .inl rfl, rfl, sixtyEight_length, sixtyEight_disarmOk, rfl, rfl, by decide, quietly_samples _,
    quietly_disarmOk _⟩

theorem witness_ListeningIsBounded (n : Nat) :
    (stateWith listening rotating).tx.mode = .listen ∧ (stateWith listening rotating).tx.timerRun = true ∧
    (stateWith listening rotating).tx.timeoutCnt.toNat = 4 ∧
    DisarmOk (quietly (List.replicate n false)) ∧ (quietly (List.replicate n false)).length = n ∧
    ∀ t ∈ quietly (List.replicate n false), t.1 = false :=
  ⟨rfl, rfl, by decide, quietly_disarmOk _, by simp [quietly], by simp [quietly]⟩

/-- Runs of every length up to the ninth sample, high and low after an edge, and high at the start of the read phase. -/
theorem witness_ARunOfSamplesIsReadByItsLength (v : Bool) (n : Nat) :
    let s := stateWith (reading 1 1 (BitVec.ofNat 16 (2 + v.toNat)) true) rotating
    let s' := stateWith (reading 0 0 1 true) rotating
    (s.tx.timerRun = true ∧ s.tx.mode = .read ∧ s.tx.capture = BitVec.ofNat 16 (2 + v.toNat)) ∧
    (s'.tx.timerRun = true ∧ s'.tx.mode = .read ∧ s'.tx.capture = 1) ∧
    DisarmOk (quietly (List.replicate n v)) ∧ (quietly (List.replicate n v)).map Prod.fst = List.replicate n v ∧
    (n = 7 → n + 1 ≤ 8) ∧ (n = 8 → n + 1 = 9 ∧ n + 0 ≤ 8) ∧ (n = 9 → n + 0 = 9) :=
  ⟨⟨rfl, rfl, rfl⟩, ⟨rfl, rfl, rfl⟩, quietly_disarmOk _, quietly_samples _, by omega, by omega, by omega⟩

theorem witness_ReadingIsBounded :
    (stateWith (reading 0 0 1 true) rotating).tx.mode = .read ∧ (stateWith (reading 0 0 1 true) rotating).tx.timerRun = true ∧
    TxInv (reading 0 0 1 true) ∧ 612 ≤ (quietly (List.replicate 612 true)).length :=
  ⟨rfl, rfl, by constructor <;> simp [reading, ready, Transceiver.reset, Mode.active, Transceiver.available],
    by rw [quietly, List.length_map, List.length_replicate]⟩

/-- A state that meets the invariant, with a whole frame received. -/
theorem received_inv : BlockInv (stateWith { inMode .received with data := 0x40192D40, bitPos := 33 } rotating) where
  tx := by
    constructor <;> simp [stateWith, inMode, ready, Transceiver.reset, Mode.active, Transceiver.available]
    decide
  sched := rotating_inv
  setup_inited _ := rfl
  setup_failed _ h := absurd h (by simp [stateWith, inMode, ready, Transceiver.reset])

theorem witness_OnlyGoodFramesAreReturned :
    BlockInv (stateWith { inMode .received with data := 0x40192D40, bitPos := 33 } rotating) ∧
    ∃ t, exec .getMessage (stateWith { inMode .received with data := 0x40192D40, bitPos := 33 } rotating) = .next t ∧
      t.out.response = .message true 0x40192D40 :=
  ⟨received_inv, _, rfl, by decide⟩

/-! ### Witnesses: configuration and rotation -/

theorem witness_CfgMsgResult :
    State.reset.sched.setupDone = false ∧ (stateWith ready rotating).sched.setupDone = true := by decide

theorem witness_CfgMsgResult_kept :
    (∃ t, exec (.loop 1000) (stateWith ready rotating) = .next t) ∧
    (stateWith ready rotating).sched.isConfigured 125 = true :=
  ⟨⟨_, rfl⟩, by simp [stateWith, rotating, Scheduler.isConfigured, Scheduler.configure]⟩

theorem witness_CfgCtrlResult :
    State.reset.sched.setupDone = false ∧ (858993459 : BitVec 30).toNat ≤ 858993459 ∧
    858993459 < (858993460 : BitVec 30).toNat ∧ (stateWith ready rotating).sched.setupDone = true := by decide

theorem witness_SetupResult_refused :
    (stateWith ready rotating).sched.setupDone = true ∧
    (State.reset.sched.setupDone = false ∧ State.reset.tx.inited = false) := by decide

theorem witness_SetupResult_initFailed :
    let s := stateWith { ready with initFailed := true } Scheduler.reset
    s.sched.setupDone = false ∧ s.tx.inited = true ∧ s.tx.initFailed = true := by decide

theorem witness_SetupResult_startup :
    let s := stateWith ready (Scheduler.reset.configure 9 254)
    s.sched.setupDone = false ∧ s.tx.inited = true ∧ s.tx.initFailed = false ∧
    deriveInitial s.platform s.sched ≠ [] := by
  refine ⟨rfl, rfl, rfl, List.ne_nil_of_mem (a := 9) ((List.mem_insertionSort _).mpr ?_)⟩
  simp [mem_allIdents, Scheduler.isStartup, stateWith, orderRepeating]

theorem witness_SetupResult_noStartup :
    let s := stateWith ready (Scheduler.reset.configure 9 255)
    s.sched.setupDone = false ∧ s.tx.inited = true ∧ s.tx.initFailed = false ∧
    deriveInitial s.platform s.sched = [] := by decide +kernel

theorem witness_BuildRequestCases :
    let e := { Env.quiet with writeHandlers := [(1, 0x1580)], readHandlers := [1, 25] }
    ((1 : Ident) ≠ 0 ∧ e.role 1 = .writeHandler) ∧ ((25 : Ident) ≠ 0 ∧ e.role 25 = .readHandler) ∧
    ((255 : Ident) ≠ 0 ∧ e.role 255 = .noHandler) ∧
    (((1 : Ident), (0x1580 : BitVec 16)) ∈ e.writeHandlers ∧
      ∀ u, ((1 : Ident), u) ∈ e.writeHandlers → u = 0x1580) := by
  refine ⟨by decide, by decide, by decide, by decide, fun u h => ?_⟩
  simpa using h

/-! ### Witnesses: the main-loop step -/

theorem witness_LoopBeforeSetupOrFailed :
    State.reset.sched.setupDone = false ∧
    (stateWith ready { rotating with failed := true }).sched.setupDone = true ∧
    (stateWith ready { rotating with failed := true }).sched.failed = true := by decide

theorem witness_LoopOnSentListens :
    let s := stateWith (inMode .sent) rotating
    s.sched.setupDone = true ∧ s.sched.failed = false ∧ s.tx.mode = .sent := by decide

theorem witness_LoopOnReceived :
    ∀ c : BitVec 8, c = 0 ∨ c = 1 →
      let s := stateWith { inMode .received with data := 0x40192D40 } { rotating with cursor := c }
      s.sched.setupDone = true ∧ s.sched.failed = false ∧ s.tx.mode = .received ∧
      (⟨4, 25, 0x2D, 0x40⟩ : Frame) = s.env.hookPreProcess.getD
        ⟨s.tx.data.extractLsb' 28 3, s.tx.data.extractLsb' 16 8, s.tx.data.extractLsb' 8 8, s.tx.data.extractLsb' 0 8⟩ ∧
      (s.sched.cursor.toNat + 1 = s.sched.rotLen.toNat ↔ c = 1) := by
  rintro c (rfl | rfl) <;> decide

theorem witness_LoopOnRetryableErrors :
    ∀ m : Mode, m = .errorProtocol ∨ m = .errorTimeout →
      (stateWith (inMode m) rotating).sched.setupDone = true ∧ (stateWith (inMode m) rotating).sched.failed = false ∧
      (stateWith (inMode m) rotating).tx.mode = m := by
  rintro m (rfl | rfl) <;> decide

theorem witness_LoopOnTimerError :
    let s := stateWith { inMode .errorTimer with terr := .arm } rotating
    s.sched.setupDone = true ∧ s.sched.failed = false ∧ s.tx.mode = .errorTimer ∧
    ∃ t, exec (.loop 1000) s = .next t := ⟨rfl, rfl, rfl, _, rfl⟩

/-- 99 ms after the end of the last conversation, and an empty list. -/
theorem witness_LoopOnIdle_skips :
    (let s := stateWith ready (ended 901)
     s.sched.setupDone = true ∧ s.sched.failed = false ∧ s.tx.mode = .idle ∧
     (s.sched.convEndValid = true ∧ ((1000 : Millis) - s.sched.convEnd).toNat < 100 ∨ s.sched.rotLen = 0)) ∧
    (let s := stateWith ready { ended 0 with rotLen := 0 }
     s.sched.setupDone = true ∧ s.sched.failed = false ∧ s.tx.mode = .idle ∧
     (s.sched.convEndValid = true ∧ ((1000 : Millis) - s.sched.convEnd).toNat < 100 ∨ s.sched.rotLen = 0)) := by decide

/-- 100 ms after the end of a conversation that took 1151 ms. -/
theorem witness_LoopOnIdle_starts :
    let s := stateWith ready (ended 1151)
    s.sched.setupDone = true ∧ s.sched.failed = false ∧ s.tx.mode = .idle ∧ s.tx.available = true ∧
    (s.sched.convEndValid = true → 100 ≤ ((1251 : Millis) - s.sched.convEnd).toNat) ∧
    s.sched.cursor.toNat < s.sched.rotLen.toNat ∧ s.sched.rot[s.sched.cursor.toNat]? = some 125 ∧
    (⟨0, 0, 0, 0⟩ : Frame) = s.env.hookPreSend.getD (s.env.buildRequest 125).1 := by decide +kernel

/-- At the ceiling and past it. -/
theorem witness_LoopOnAnActiveMode :
    let s := stateWith listening (ended 0)
    s.sched.setupDone = true ∧ s.sched.failed = false ∧
    (s.tx.mode = .listen ∨ s.tx.mode = .read ∨ s.tx.mode = .write) ∧
    (s.sched.cfgSync = false ∨ s.sched.convStartValid = false ∨ ((1150 : Millis) - s.sched.convStart).toNat ≤ 1150) ∧
    s.sched.cfgSync = true ∧ s.sched.convStartValid = true ∧ 1150 < ((1151 : Millis) - s.sched.convStart).toNat := by
  decide

/-! ### Witnesses: rules about the whole machine -/

theorem witness_EachContextWritesItsOwnRecord : ∃ t, exec (.loop 1000) (stateWith ready rotating) = .next t := ⟨_, rfl⟩

theorem witness_ConfigurationIsFrozenBySetup :
    (stateWith ready rotating).sched.setupDone = true ∧ ∃ t, exec (.loop 1000) (stateWith ready rotating) = .next t :=
  ⟨rfl, _, rfl⟩

theorem witness_FailureIsPermanent :
    let s := stateWith (inMode .errorTimer) { rotating with failed := true }
    s.sched.failed = true ∧ s.sched.setupDone = true ∧ ∃ t, exec (.loop 1000) s = .next t := ⟨rfl, rfl, _, rfl⟩

/-- `err` changes at a protocol error; `terr` at a failed arm and at a failed disarm. -/
theorem witness_CauseRegistersAreSticky :
    (∃ t, exec (.tick true) (stateWith (reading 1 1 0x1E0 true) rotating) = .next t ∧ t.tx.err ≠ .noError) ∧
    (∃ t, exec .listen (armFails (stateWith ready rotating)) = .next t ∧ t.tx.terr ≠ .none) ∧
    (∃ t, exec .stop (disarmFails (stateWith listening rotating)) = .next t ∧ t.tx.terr ≠ .none) :=
  ⟨⟨_, rfl, by decide⟩, ⟨_, rfl, by decide⟩, ⟨_, rfl, by decide⟩⟩

theorem witness_LineIsDrivenByInitAndWriteTicks :
    ∃ t, exec (.tick true) (stateWith (sending 33 true) rotating) = .next t ∧
      t.tx.lineOut ≠ (stateWith (sending 33 true) rotating).tx.lineOut := ⟨_, rfl, by decide⟩

theorem witness_ModesFollowTheTransitionTable : ∃ t, exec (.tick true) (stateWith listening rotating) = .next t := ⟨_, rfl⟩

theorem witness_ConversationsStartOnlyFromIdleAfterTheGap :
    ∃ t, exec (.loop 1251) (stateWith ready (ended 1151)) = .next t ∧ .request 0 0 0 0 ∈ t.out.events :=
  ⟨_, rfl, by decide +kernel⟩

/-- The tick that ends a `WRITE` in `SENT` with the line high, from a line that is low. -/
theorem witness_LineIsHighUnlessAWriteWasCutShort :
    let s := offered 0x600000000 (stateWith { sending 0 false with lineOut := false } rotating)
    LineIdle false s.tx ∧
    ∃ t, step s = .next t ∧ t.tx.mode = .sent ∧ cutAfter false s.tx t.tx = false ∧ t.tx.lineOut = true :=
  ⟨fun _ h => absurd rfl h, _, rfl, by decide, by decide, by decide⟩

/-- A `WRITE` that `STOP` cuts short with the line low (V19). -/
theorem witness_LineIsHighUnlessAWriteWasCutShort_cut :
    let s := offered 0x500000000 (stateWith { sending 32 false with lineOut := false } rotating)
    LineIdle false s.tx ∧ ∃ t, step s = .next t ∧ cutAfter false s.tx t.tx = true ∧ t.tx.lineOut = false :=
  ⟨fun _ h => absurd rfl h, _, rfl, by decide, by decide⟩

theorem witness_RotationIsFair :
    (List.replicate (2 + 3 * 0) (Vector.replicate 256 (0 : Ident))).length = 2 + 3 * 0 := List.length_replicate

/-! ### Witnesses and vectors: data values -/

theorem witness_IntegerInterpretationsInvert :
    ((-1 : Int) < 0 ∨ 65535 < (-1 : Int)) ∧ ((65536 : Int) < 0 ∨ 65535 < (65536 : Int)) ∧
    ((-32769 : Int) < -32768 ∨ 32767 < (-32769 : Int)) ∧ ((32768 : Int) < -32768 ∨ 32767 < (32768 : Int)) ∧
    ((-32769 / 256 : ℝ) < -128 ∨ 128 ≤ (-32769 / 256 : ℝ)) ∧ ((128 : ℝ) < -128 ∨ 128 ≤ (128 : ℝ)) :=
  ⟨by decide, by decide, by decide, by decide, by norm_num, by norm_num⟩

theorem witness_FixedPointEncodingIsWithinOneStep :
    (-128 ≤ (-128 : ℝ) ∧ (-128 : ℝ) < 128 ∧ ∃ n : Int, (-128 : ℝ) * 256 = n) ∧
    (-128 ≤ (32767 / 256 : ℝ) ∧ (32767 / 256 : ℝ) < 128) ∧
    ((-32769 / 256 : ℝ) < -128 ∨ 128 ≤ (-32769 / 256 : ℝ)) ∧ ((128 : ℝ) < -128 ∨ 128 ≤ (128 : ℝ)) :=
  ⟨⟨by norm_num, by norm_num, -32768, by norm_num⟩, by norm_num, by norm_num, by norm_num⟩

/-- L6: 21.5 exactly, 21.51 as 5506 = 0x1582; negative values are truncated toward zero. -/
theorem test_f88 :
    encF88 (43 / 2) = some 0x1580 ∧ f88 0x15 0x80 = 43 / 2 ∧ encF88 (2151 / 100) = some 0x1582 ∧
    encF88 (-1 / 512) = some 0 ∧ encF88 128 = none := by decide +kernel

/-- R268: "positive" is strictly greater than zero. -/
theorem test_setpointPositive :
    setpointPositive 0x15 0x80 = true ∧ setpointPositive 0 0 = false ∧ setpointPositive 0xFF 0xFF = false := by decide

end Sys2Proof.Tests
end

section
/-! PROOFS. One equation of `step` per branch: the empty port, an entry whose word decodes, an entry whose word does not. -/

namespace Sys2Proof.Machine

variable {s : State} {p : PortEntry} {rest : List PortEntry}

theorem step_of_port_nil (hport : s.port = []) : step s = .next s.beginStep := by
  simp only [step, hport]

theorem step_of_decode_ok {i : Instr} (hport : s.port = p :: rest) (hdec : decode p.word = .ok i) :
    step s = exec i { s with port := rest, env := p.env } := by
  simp only [step, hport, hdec]

theorem step_of_decode_error {why : DecodeError} (hport : s.port = p :: rest) (hdec : decode p.word = .error why) :
    step s = .refused (.illegalWord why) := by
  simp only [step, hport, hdec]

end Sys2Proof.Machine
end

section
/-! PROOFS. The port (00_scope.md). -/

namespace Sys2Proof.Machine

/-- Settles O6: the three clauses are the three equations of `step`, and `beginStep` clears `out` alone. -/
theorem stepRunsTheDecodedCommand : Obligations.StepRunsTheDecodedCommand := fun _ =>
  ⟨step_of_port_nil, fun _ _ hport =>
    ⟨fun _ hdec => step_of_decode_ok hport hdec, fun _ hdec => step_of_decode_error hport hdec⟩⟩

end Sys2Proof.Machine
end

section
/-! PROOFS. What a step can do to each part of the state, said once for all operations: the transceiver record, the
scheduler record, the events, the parts no operation writes, and the two faults. -/

namespace Sys2Proof.Machine

/-- A step answers the empty step, the meaning of the decoded operation, or a refusal. -/
theorem step_cases (s : State) :
    step s = .next s.beginStep ∨
    (∃ (p : PortEntry) (rest : List PortEntry) (i : Instr), step s = exec i { s with port := rest, env := p.env }) ∨
    (∃ why, step s = .refused (.illegalWord why)) := by
  cases hport : s.port with
  | nil => exact .inl (step_of_port_nil hport)
  | cons p rest =>
    cases hdec : decode p.word with
    | ok i => exact .inr (.inl ⟨p, rest, i, step_of_decode_ok hport hdec⟩)
    | error why => exact .inr (.inr ⟨why, step_of_decode_error hport hdec⟩)

/-- A step that answers a next state is the empty step or one operation. -/
theorem step_next {s t : State} (h : step s = .next t) :
    t = s.beginStep ∨
    ∃ (p : PortEntry) (rest : List PortEntry) (i : Instr), exec i { s with port := rest, env := p.env } = .next t := by
  rcases step_cases s with e | ⟨p, rest, i, e⟩ | ⟨why, e⟩ <;> rw [e] at h
  · cases h; exact .inl rfl
  · exact .inr ⟨p, rest, i, h⟩
  · cases h

/-- What an operation can do to the transceiver record. -/
inductive TxEffect (s : State) : Transceiver → Prop
  | keep : TxEffect s s.tx
  | init (hi : s.tx.inited = false) :
      TxEffect s { s.tx with
        lineOut := true, inited := true, mode := .idle, initFailed := s.tx.initFailed || !s.platform.timerAvailable }
  | listen (ha : s.tx.available = true) : TxEffect s (startListening s.env s.sched.cfgTimeoutMs s.tx)
  | send (f : Frame) (ha : s.tx.available = true) : TxEffect s (startSending s.env f s.tx)
  | stop : TxEffect s (stopTransceiver s.env.disarm s.tx)
  | tickListen (v : Bool) (hr : s.tx.timerRun = true) (hm : s.tx.mode = .listen) :
      TxEffect s (tickListen v s.env.disarm s.tx)
  | tickRead (v : Bool) (hr : s.tx.timerRun = true) (hm : s.tx.mode = .read) :
      TxEffect s (tickRead v s.env.disarm s.tx)
  | tickWrite (b : Bool) (hr : s.tx.timerRun = true) (hm : s.tx.mode = .write)
      (hb : slotBit s.tx.data s.tx.bitPos = some b) : TxEffect s (tickWrite b s.env.disarm s.tx)

/-- What an operation can do to the scheduler record. -/
inductive SchedEffect (s : State) : Scheduler → Prop
  | keep : SchedEffect s s.sched
  | cfgMsg (id : Ident) (order : Byte) (hd : s.sched.setupDone = false) : SchedEffect s (s.sched.configure id order)
  | cfgCtrl (sync : Bool) (ms : BitVec 30) (hd : s.sched.setupDone = false) (hms : ms.toNat ≤ maxTimeoutMs) :
      SchedEffect s { s.sched with cfgSync := sync, cfgTimeoutMs := ms.setWidth 32 }
  | setupFailed (hd : s.sched.setupDone = false) (hi : s.tx.inited = true) (hf : s.tx.initFailed = true) :
      SchedEffect s { s.sched with setupDone := true, failed := true }
  | setup (hd : s.sched.setupDone = false) (hi : s.tx.inited = true) (hf : s.tx.initFailed = false) :
      SchedEffect s { s.sched.startRotation s.platform s.env.rotRest with setupDone := true }
  | startConversation (now : Millis) (hd : s.sched.setupDone = true) (hf : s.sched.failed = false) :
      SchedEffect s { s.sched with convStart := now, convStartValid := true }
  | retry (now : Millis) (hd : s.sched.setupDone = true) (hf : s.sched.failed = false) :
      SchedEffect s { s.sched with convEnd := now, convEndValid := true }
  | advance (now : Millis) (hd : s.sched.setupDone = true) (hf : s.sched.failed = false) :
      SchedEffect s { s.sched.advanceCursor s.platform s.env.rotRest with convEnd := now, convEndValid := true }
  | fail (now : Millis) (hd : s.sched.setupDone = true) (hf : s.sched.failed = false) :
      SchedEffect s { s.sched with convEnd := now, convEndValid := true, failed := true }

/-! ### The transceiver record -/

/-- `LOOP` leaves the transceiver record or changes it as one of the three commands does (R48). -/
theorem execLoop_tx {now : Millis} {s t : State} (h : execLoop now s = .next t) :
    t.tx = s.tx ∨
    (s.tx.available = true ∧ t.tx = startListening s.env s.sched.cfgTimeoutMs s.tx) ∨
    (s.tx.available = true ∧ ∃ f, t.tx = startSending s.env f s.tx) ∨
    t.tx = stopTransceiver s.env.disarm s.tx := by
  obtain ⟨-, rfl | ⟨-, ⟨-, hl⟩ | ⟨-, rfl⟩ | ⟨-, rfl⟩ | ⟨-, rfl⟩ | ⟨-, rfl⟩ | ⟨-, -, rfl⟩ | ⟨-, -, _, -, hc⟩⟩⟩ :=
    execLoop_next h
  · exact .inl rfl
  · obtain ⟨ha, rfl⟩ := State.listen_next hl
    exact .inr (.inl ⟨ha, rfl⟩)
  · exact .inr (.inr (.inr rfl))
  · exact .inr (.inr (.inr rfl))
  · exact .inr (.inr (.inr rfl))
  · exact .inr (.inr (.inr rfl))
  · exact .inr (.inr (.inr rfl))
  · obtain ⟨ha, htx, -⟩ := State.startConversation_next hc
    exact .inr (.inr (.inl ⟨ha, _, htx⟩))

/-- An available transceiver accepts `LISTEN` (R142 (b)). -/
theorem execListen_of_available {s : State} (ha : s.tx.available = true) :
    exec .listen s = .next (s.beginStep.withTx (startListening s.env s.sched.cfgTimeoutMs s.tx)) := if_pos ha

/-- An available transceiver accepts `SEND` (R142 (b)). -/
theorem execSend_of_available {s : State} (f : Frame) (ha : s.tx.available = true) :
    exec (.send f.ty f.id f.hb f.lb) s = .next (s.beginStep.withTx (startSending s.env f s.tx)) := if_pos ha

/-- Every operation's effect on the transceiver record is one of `TxEffect`. -/
theorem exec_tx {i : Instr} {s t : State} (h : exec i s = .next t) : TxEffect s t.tx := by
  cases i with
  | init =>
    obtain ⟨hi, htx, -⟩ := execInit_next h
    exact htx ▸ .init hi
  | listen =>
    obtain ⟨ha, rfl⟩ := State.listen_next h
    exact .listen ha
  | send ty id hb lb =>
    obtain ⟨ha, rfl⟩ := State.send_next h
    exact .send _ ha
  | getMessage => cases h; exact .keep
  | getProtocolError => cases h; exact .keep
  | stop => cases h; exact .stop
  | tick v =>
    obtain ⟨-, rfl⟩ | ⟨hr, hm, rfl⟩ | ⟨hr, hm, rfl⟩ | ⟨hr, hm, b, hb, rfl⟩ := execTick_next h
    · exact .keep
    · exact .tickListen v hr hm
    · exact .tickRead v hr hm
    · exact .tickWrite b hr hm hb
  | cfgMsg id order =>
    obtain ⟨-, rfl⟩ := execCfgMsg_next h
    exact .keep
  | cfgCtrl sync ms =>
    obtain ⟨-, -, rfl⟩ := execCfgCtrl_next h
    exact .keep
  | setup =>
    obtain ⟨-, -, htx, -⟩ := execSetup_next h
    exact htx ▸ .keep
  | loop now =>
    obtain htx | ⟨ha, htx⟩ | ⟨ha, f, htx⟩ | htx := execLoop_tx h <;> rw [htx]
    · exact .keep
    · exact .listen ha
    · exact .send f ha
    · exact .stop

/-! ### The scheduler record -/

/-- Everything `LOOP` can do to the scheduler record (R225 to R232). -/
theorem execLoop_sched {now : Millis} {s t : State} (h : execLoop now s = .next t) : SchedEffect s t.sched := by
  obtain ⟨hd, rfl | ⟨hf, ⟨-, hl⟩ | ⟨-, rfl⟩ | ⟨-, rfl⟩ | ⟨-, rfl⟩ | ⟨-, rfl⟩ | ⟨-, -, rfl⟩ | ⟨-, -, _, -, hc⟩⟩⟩ :=
    execLoop_next h
  · exact .keep
  · obtain ⟨-, rfl⟩ := State.listen_next hl
    exact .keep
  · exact .advance now hd hf
  · exact .retry now hd hf
  · exact .retry now hd hf
  · exact .fail now hd hf
  · exact .retry now hd hf
  · obtain ⟨-, -, hs, -⟩ := State.startConversation_next hc
    exact hs ▸ .startConversation now hd hf

/-- The operations that do not write the scheduler record (R48). -/
def LeavesSched : Instr → Prop
  | .init | .listen | .send _ _ _ _ | .getMessage | .getProtocolError | .stop | .tick _ => True
  | .cfgMsg _ _ | .cfgCtrl _ _ | .setup | .loop _ => False

/-- A tick and the transceiver commands leave the scheduler record (R48). -/
theorem exec_sched_of_leavesSched {i : Instr} {s t : State} (hi : LeavesSched i) (h : exec i s = .next t) :
    t.sched = s.sched := by
  cases i with
  | init => obtain ⟨-, -, hs, -⟩ := execInit_next h; exact hs
  | listen => obtain ⟨-, rfl⟩ := State.listen_next h; rfl
  | send ty id hb lb => obtain ⟨-, rfl⟩ := State.send_next h; rfl
  | getMessage => cases h; rfl
  | getProtocolError => cases h; rfl
  | stop => cases h; rfl
  | tick v => obtain ⟨-, rfl⟩ | ⟨-, -, rfl⟩ | ⟨-, -, rfl⟩ | ⟨-, -, _, -, rfl⟩ := execTick_next h <;> rfl
  | cfgMsg _ _ | cfgCtrl _ _ | setup | loop _ => exact hi.elim

/-- Every operation's effect on the scheduler record is one of `SchedEffect`. -/
theorem exec_sched {i : Instr} {s t : State} (h : exec i s = .next t) : SchedEffect s t.sched := by
  cases i with
  | init | listen | send _ _ _ _ | getMessage | getProtocolError | stop | tick _ =>
    rw [exec_sched_of_leavesSched (by trivial) h]
    exact .keep
  | cfgMsg id order =>
    obtain ⟨hd, rfl⟩ := execCfgMsg_next h
    exact .cfgMsg id order hd
  | cfgCtrl sync ms =>
    obtain ⟨hd, hms, rfl⟩ := execCfgCtrl_next h
    exact .cfgCtrl sync ms hd hms
  | setup =>
    obtain ⟨hd, hi, -, -, -, -, ⟨hf, hs, -⟩ | ⟨hf, hs, -⟩⟩ := execSetup_next h <;> rw [hs]
    · exact .setupFailed hd hi hf
    · exact .setup hd hi hf
  | loop now => exact execLoop_sched h

section rotation
variable (p : Platform) (rest : Vector Ident 256) (c : Scheduler)

@[simp] theorem Scheduler.advanceCursor_setupDone : (c.advanceCursor p rest).setupDone = c.setupDone := by
  rcases c.advanceCursor_cases p rest with ⟨-, e⟩ | ⟨-, e⟩ <;> simp [e]

@[simp] theorem Scheduler.advanceCursor_cfgSync : (c.advanceCursor p rest).cfgSync = c.cfgSync := by
  rcases c.advanceCursor_cases p rest with ⟨-, e⟩ | ⟨-, e⟩ <;> simp [e]

@[simp] theorem Scheduler.advanceCursor_cfgTimeoutMs : (c.advanceCursor p rest).cfgTimeoutMs = c.cfgTimeoutMs := by
  rcases c.advanceCursor_cases p rest with ⟨-, e⟩ | ⟨-, e⟩ <;> simp [e]

@[simp] theorem Scheduler.startRotation_failed : (c.startRotation p rest).failed = c.failed := by
  rcases c.startRotation_cases p rest with ⟨-, e⟩ | ⟨-, e⟩ <;> simp [e]

end rotation

@[simp] theorem Scheduler.configure_failed (c : Scheduler) (id : Ident) (o : Byte) :
    (c.configure id o).failed = c.failed := rfl

/-- What `SETUP` freezes (R40, R81): the mark itself and the four configuration registers. -/
def SameConfig (c d : Scheduler) : Prop :=
  d.setupDone = true ∧ d.order = c.order ∧ d.configured = c.configured ∧ d.cfgSync = c.cfgSync ∧
    d.cfgTimeoutMs = c.cfgTimeoutMs

/-- Once set up, no effect on the scheduler record reaches the configuration. -/
theorem SchedEffect.sameConfig {s : State} {c : Scheduler} (h : SchedEffect s c) (hd : s.sched.setupDone = true) :
    SameConfig s.sched c := by
  cases h with
  | keep | startConversation | retry | fail => exact ⟨hd, rfl, rfl, rfl, rfl⟩
  | advance => simp [SameConfig, hd]
  | cfgMsg _ _ hd' | cfgCtrl _ _ hd' _ | setupFailed hd' _ _ | setup hd' _ _ => simp [hd] at hd'

/-- The mark `failed` is never cleared (R39). -/
theorem SchedEffect.failed {s : State} {c : Scheduler} (h : SchedEffect s c) (hf : s.sched.failed = true) :
    c.failed = true := by
  cases h with
  | keep | cfgCtrl => exact hf
  | cfgMsg | setup => simpa using hf
  | setupFailed | fail => rfl
  | startConversation _ _ hf' | retry _ _ hf' | advance _ _ hf' => simp [hf] at hf'

/-- A failed scheduler that is set up is frozen (R230, R287). -/
theorem SchedEffect.eq_of_failed {s : State} {c : Scheduler} (h : SchedEffect s c) (hd : s.sched.setupDone = true)
    (hf : s.sched.failed = true) : c = s.sched := by
  cases h with
  | keep => rfl
  | cfgMsg _ _ hd' | cfgCtrl _ _ hd' _ | setupFailed hd' _ _ | setup hd' _ _ => simp [hd] at hd'
  | startConversation _ _ hf' | retry _ _ hf' | advance _ _ hf' | fail _ _ hf' => simp [hf] at hf'

/-- The boot order (R217): what is set up now was set up before, or the pins were configured by then. -/
theorem SchedEffect.setupDone_or_inited {s : State} {c : Scheduler} (h : SchedEffect s c) (hd : c.setupDone = true) :
    s.sched.setupDone = true ∨ s.tx.inited = true := by
  cases h with
  | keep | cfgMsg | cfgCtrl => exact .inl hd
  | startConversation _ hd' | retry _ hd' | advance _ hd' | fail _ hd' => exact .inl hd'
  | setupFailed _ hi | setup _ hi => exact .inr hi

/-- A component that is set up on failed hardware stays marked as failed (R217, R282). -/
theorem SchedEffect.failed_of_initFailed {s : State} {c : Scheduler} (e : SchedEffect s c)
    (h : s.sched.setupDone = true → s.tx.initFailed = true → s.sched.failed = true) (hd : c.setupDone = true)
    (hi : s.tx.initFailed = true) : c.failed = true := by
  cases e with
  | setupFailed => rfl
  | setup _ _ hi' => simp [hi] at hi'
  | keep | cfgMsg | cfgCtrl => exact h hd hi
  | startConversation _ hd' hf' | retry _ hd' hf' | advance _ hd' hf' | fail _ hd' hf' => simp [h hd' hi] at hf'

/-! ### The events, and what no operation writes -/

/-- Only `SETUP` and a `LOOP` of a component that is not failed emit events (R44), so a failed one that is set up emits
none. -/
theorem exec_events_of_failed {i : Instr} {s t : State} (hd : s.sched.setupDone = true) (hf : s.sched.failed = true)
    (h : exec i s = .next t) : t.out.events = [] := by
  cases i with
  | init => obtain ⟨-, -, -, -, -, -, he⟩ := execInit_next h; exact he
  | listen => obtain ⟨-, rfl⟩ := State.listen_next h; rfl
  | send ty id hb lb => obtain ⟨-, rfl⟩ := State.send_next h; rfl
  | getMessage => cases h; rfl
  | getProtocolError => cases h; rfl
  | stop => cases h; rfl
  | tick v => obtain ⟨-, rfl⟩ | ⟨-, -, rfl⟩ | ⟨-, -, rfl⟩ | ⟨-, -, _, -, rfl⟩ := execTick_next h <;> rfl
  | cfgMsg id order => obtain ⟨-, rfl⟩ := execCfgMsg_next h; rfl
  | cfgCtrl sync ms => obtain ⟨-, -, rfl⟩ := execCfgCtrl_next h; rfl
  | setup =>
    obtain ⟨hd', -⟩ := execSetup_next h
    simp [hd] at hd'
  | loop now =>
    obtain ⟨-, rfl | ⟨hf', -⟩⟩ := execLoop_next h
    · rfl
    · simp [hf] at hf'

/-- The parts of the state that no operation writes: the platform, the environment's inputs and the port. -/
def SameSurroundings (s t : State) : Prop := t.platform = s.platform ∧ t.env = s.env ∧ t.port = s.port

/-- No operation writes the platform, the environment's inputs or the port. -/
theorem exec_sameSurroundings {i : Instr} {s t : State} (h : exec i s = .next t) : SameSurroundings s t := by
  cases i with
  | init => obtain ⟨-, -, -, hp, he, hq, -⟩ := execInit_next h; exact ⟨hp, he, hq⟩
  | listen => obtain ⟨-, rfl⟩ := State.listen_next h; exact ⟨rfl, rfl, rfl⟩
  | send ty id hb lb => obtain ⟨-, rfl⟩ := State.send_next h; exact ⟨rfl, rfl, rfl⟩
  | getMessage => cases h; exact ⟨rfl, rfl, rfl⟩
  | getProtocolError => cases h; exact ⟨rfl, rfl, rfl⟩
  | stop => cases h; exact ⟨rfl, rfl, rfl⟩
  | tick v =>
    obtain ⟨-, rfl⟩ | ⟨-, -, rfl⟩ | ⟨-, -, rfl⟩ | ⟨-, -, _, -, rfl⟩ := execTick_next h <;> exact ⟨rfl, rfl, rfl⟩
  | cfgMsg id order => obtain ⟨-, rfl⟩ := execCfgMsg_next h; exact ⟨rfl, rfl, rfl⟩
  | cfgCtrl sync ms => obtain ⟨-, -, rfl⟩ := execCfgCtrl_next h; exact ⟨rfl, rfl, rfl⟩
  | setup => obtain ⟨-, -, -, hp, he, hq, -⟩ := execSetup_next h; exact ⟨hp, he, hq⟩
  | loop now =>
    obtain ⟨-, rfl | ⟨-, ⟨-, hl⟩ | ⟨-, rfl⟩ | ⟨-, rfl⟩ | ⟨-, rfl⟩ | ⟨-, rfl⟩ | ⟨-, -, rfl⟩ | ⟨-, -, _, -, hc⟩⟩⟩ :=
      execLoop_next h
    case inr.inl => obtain ⟨-, rfl⟩ := State.listen_next hl; exact ⟨rfl, rfl, rfl⟩
    case inr.inr.inr.inr.inr.inr.inr =>
      obtain ⟨-, -, -, hp, he, hq, -⟩ := State.startConversation_next hc
      exact ⟨hp, he, hq⟩
    all_goals exact ⟨rfl, rfl, rfl⟩

/-! ### The two faults -/

/-- The command `LISTEN` never faults. -/
theorem State.listen_ne_fault (s : State) (r : Fault) : s.listen ≠ .fault r := by
  rcases s.listen_cases with ⟨-, e⟩ | ⟨-, e⟩ <;> simp [e]

/-- The command `SEND` never faults. -/
theorem State.send_ne_fault (s : State) (f : Frame) (r : Fault) : s.send f ≠ .fault r := by
  rcases s.send_cases f with ⟨-, e⟩ | ⟨-, e⟩ <;> simp [e]

/-- A `TICK` faults only where there is no slot to send (log 6). -/
theorem execTick_fault {v : Bool} {s : State} {r : Fault} (h : execTick v s = .fault r) :
    slotBit s.tx.data s.tx.bitPos = none := by
  cases hr : s.tx.timerRun
  · simp [execTick, hr] at h
  cases hm : s.tx.mode
  case write =>
    cases hb : slotBit s.tx.data s.tx.bitPos
    · rfl
    · simp [execTick, hr, hm, hb] at h
  all_goals simp [execTick, hr, hm] at h

/-- A `LOOP` on `IDLE` faults only where the list is not empty and has no entry under the cursor (log 6). -/
theorem State.loopIdle_fault {now : Millis} {s : State} {r : Fault} (h : s.loopIdle now = .fault r) :
    s.sched.rotLen ≠ 0 ∧ s.sched.current = none := by
  unfold State.loopIdle at h
  split at h
  · cases h
  split at h
  · cases h
  rename_i hlen
  split at h
  · exact ⟨hlen, ‹_›⟩
  · exact absurd h (State.send_ne_fault _ _ _)

/-- A `LOOP` faults only where the list is not empty and has no entry under the cursor (log 6). -/
theorem execLoop_fault {now : Millis} {s : State} {r : Fault} (h : execLoop now s = .fault r) :
    s.sched.rotLen ≠ 0 ∧ s.sched.current = none := by
  cases hd : s.sched.setupDone
  · simp [execLoop, hd] at h
  cases hf : s.sched.failed
  swap
  · simp [execLoop, hd, hf] at h
  cases hm : s.tx.mode
  case idle =>
    have hidle : s.beginStep.loopIdle now = .fault r := by simpa [execLoop, hd, hf, hm] using h
    exact State.loopIdle_fault (s := s.beginStep) hidle
  case sent => simp [execLoop, hd, hf, hm, State.listen_ne_fault] at h
  all_goals simp [execLoop, hd, hf, hm] at h

/-- The only two ways an operation faults (log 6). -/
theorem exec_fault {i : Instr} {s : State} {r : Fault} (h : exec i s = .fault r) :
    slotBit s.tx.data s.tx.bitPos = none ∨ (s.sched.rotLen ≠ 0 ∧ s.sched.current = none) := by
  cases i with
  | tick v => exact .inl (execTick_fault h)
  | loop now => exact .inr (execLoop_fault h)
  | listen => exact absurd h (State.listen_ne_fault _ _)
  | send ty id hb lb => exact absurd h (State.send_ne_fault _ _ _)
  | getMessage | getProtocolError | stop => cases h
  | init => simp only [exec, execInit] at h; split at h <;> cases h
  | cfgMsg id order => simp only [exec, execCfgMsg] at h; split at h <;> cases h
  | cfgCtrl sync ms =>
    simp only [exec, execCfgCtrl] at h
    split at h
    · cases h
    split at h <;> cases h
  | setup =>
    simp only [exec, execSetup] at h
    split at h
    · cases h
    split at h
    · cases h
    split at h <;> cases h

end Sys2Proof.Machine
end

section
/-! PROOFS. The invariant of the transceiver record (R45 (a) to (e)), one lemma per operation. -/

namespace Sys2Proof.Machine

/-- The invariant of a record of an available transceiver in an active mode. -/
theorem TxInv.of_active {x : Transceiver} (ha : x.available = true) (hm : x.mode.active = true)
    (hb : x.bitPos.toNat ≤ 33) (hc : x.mode = .read → 1 ≤ x.capture.toNat ∧ x.capture.toNat ≤ 0x1FF)
    (hr : x.timerRun = true) (hw : x.terr = .none → (x.timerRate = .tx ↔ x.mode = .write)) : TxInv x where
  bitPos_le := hb
  read_capture := hc
  timer_iff_active _ := by simp [hr, hm]
  rate_iff_write ht _ := hw ht
  unavailable_idle h := by simp [ha] at h
  failed_inited h := by simp [Transceiver.available, h] at ha
  sent_line h := by simp [h, Mode.active] at hm
  received_frame h := by simp [h, Mode.active] at hm
  protocol_cause h := by simp [h, Mode.active] at hm
  timeout_zero h := by simp [h, Mode.active] at hm
  timer_cause h := by simp [h, Mode.active] at hm

/-- The invariant of a record in `ERROR_TIMER` with its cause (R113). -/
theorem TxInv.of_errorTimer {x : Transceiver} (ha : x.available = true) (hm : x.mode = .errorTimer)
    (hb : x.bitPos.toNat ≤ 33) (hc : x.terr ≠ .none) : TxInv x where
  bitPos_le := hb
  read_capture h := by simp [hm] at h
  timer_iff_active h := absurd h hc
  rate_iff_write h := absurd h hc
  unavailable_idle h := by simp [ha] at h
  failed_inited h := by simp [Transceiver.available, h] at ha
  sent_line h := by simp [hm] at h
  received_frame h := by simp [hm] at h
  protocol_cause h := by simp [hm] at h
  timeout_zero h := by simp [hm] at h
  timer_cause _ := hc

/-- The invariant of a record in `IDLE` whose timer is stopped or has failed. -/
theorem TxInv.of_idle {x : Transceiver} (hm : x.mode = .idle) (hb : x.bitPos.toNat ≤ 33)
    (hr : x.terr = .none → x.timerRun = false) (hu : x.available = false → x.timerRun = false)
    (hf : x.initFailed = true → x.inited = true) : TxInv x where
  bitPos_le := hb
  read_capture h := by simp [hm] at h
  timer_iff_active h := by simp [hm, hr h, Mode.active]
  rate_iff_write _ h := by simp [hm, Mode.active] at h
  unavailable_idle h := ⟨hm, hu h⟩
  failed_inited := hf
  sent_line h := by simp [hm] at h
  received_frame h := by simp [hm] at h
  protocol_cause h := by simp [hm] at h
  timeout_zero h := by simp [hm] at h
  timer_cause h := by simp [hm] at h

/-- What a terminal mode other than `ERROR_TIMER` stands for (R111): `TxInv`'s clauses of those four modes. -/
def TerminalFacts (m : Mode) (x : Transceiver) : Prop :=
  match m with
  | .sent => x.lineOut = true ∧ x.bitPos = 0 ∧ x.clock = true
  | .received => x.bitPos = 33 ∧ parityOK x.data = true
  | .errorProtocol => x.err ≠ .noError
  | .errorTimeout => x.timeoutCnt = 0
  | .idle | .listen | .read | .write | .errorTimer => False

/-- The invariant of a record whose timer is stopped in a terminal mode other than `ERROR_TIMER`. -/
theorem TxInv.of_stopped {x : Transceiver} (ha : x.available = true) (hb : x.bitPos.toNat ≤ 33)
    (hr : x.timerRun = false) (hm : TerminalFacts x.mode x) : TxInv x := by
  have hact : x.mode.active = false := by cases h : x.mode <;> simp [TerminalFacts, Mode.active, h] at hm ⊢
  constructor
  case bitPos_le => exact hb
  case read_capture => intro h; simp [TerminalFacts, h] at hm
  case timer_iff_active => simp [hr, hact]
  case rate_iff_write => simp [hact]
  case unavailable_idle => simp [ha]
  case failed_inited => intro h; simp [Transceiver.available, h] at ha
  case timer_cause => intro h; simp [TerminalFacts, h] at hm
  all_goals intro h; simpa only [TerminalFacts, h] using hm

/-- A tick that ends its operation in a terminal mode (R140, R292): with the timer stopped that mode's facts are all there is
to show, and a failed disarm leaves `ERROR_TIMER` with its cause. -/
theorem txInv_finishIn {m : Mode} (r : TimerResult) {x : Transceiver} (ha : x.available = true)
    (hb : x.bitPos.toNat ≤ 33) (hm : TerminalFacts m x) : TxInv (finishIn m r x) := by
  obtain ⟨hr, e⟩ | ⟨-, -, e⟩ | ⟨-, -, e⟩ := finishIn_cases m r x <;> rw [e]
  · exact .of_stopped ha hb hr hm
  · exact .of_stopped ha hb rfl hm
  · exact .of_errorTimer ha rfl hb (by simp)

/-- A reading tick that raises a protocol error (R180) ends in `ERROR_PROTOCOL` with its cause. -/
theorem txInv_raiseProtocolError {t : ProtocolError} (r : TimerResult) {x : Transceiver} (ha : x.available = true)
    (hb : x.bitPos.toNat ≤ 33) (ht : t ≠ .noError) : TxInv (raiseProtocolError t r x) :=
  txInv_finishIn (m := .errorProtocol) r (x := { x with err := t }) ha hb ht

/-- `STOP` (R148). -/
theorem txInv_stopTransceiver (r : TimerResult) {x : Transceiver} (h : TxInv x) : TxInv (stopTransceiver r x) := by
  obtain ⟨hr, e⟩ | ⟨-, -, e⟩ | ⟨hr, -, e⟩ := stopTransceiver_cases r x <;> rw [e]
  · exact .of_idle rfl h.bitPos_le (fun _ => hr) (fun _ => hr) h.failed_inited
  · exact .of_idle rfl h.bitPos_le (fun _ => rfl) (fun _ => rfl) h.failed_inited
  · exact .of_idle rfl h.bitPos_le (by simp) (fun hu => (h.unavailable_idle hu).2) h.failed_inited

/-- `LISTEN` (R144). -/
theorem txInv_startListening (e : Env) (ms : Word) {x : Transceiver} (h : TxInv x) (ha : x.available = true) :
    TxInv (startListening e ms x) := by
  obtain ⟨-, -, e⟩ | ⟨-, -, e⟩ | ⟨-, -, e⟩ := startListening_cases e ms x <;> rw [e]
  · exact .of_errorTimer ha rfl h.bitPos_le (by simp)
  · exact .of_errorTimer ha rfl (by simp) (by simp)
  · exact .of_active ha rfl (by simp) (by simp) rfl (by simp)

/-- `SEND` (R145). -/
theorem txInv_startSending (e : Env) (f : Frame) {x : Transceiver} (h : TxInv x) (ha : x.available = true) :
    TxInv (startSending e f x) := by
  obtain ⟨-, -, e⟩ | ⟨-, -, e⟩ | ⟨-, -, e⟩ := startSending_cases e f x <;> rw [e]
  · exact .of_errorTimer ha rfl h.bitPos_le (by simp)
  · exact .of_errorTimer ha rfl (by simp) (by simp)
  · exact .of_active ha rfl (by simp) (by simp) rfl (by simp)

/-- `INIT` (R143): nothing had started the timer before. -/
theorem txInv_init {x : Transceiver} (b : Bool) (h : TxInv x) (hi : x.inited = false) :
    TxInv { x with lineOut := true, inited := true, mode := .idle, initFailed := b } := by
  obtain ⟨-, hr⟩ := h.unavailable_idle (by simp [Transceiver.available, hi])
  exact .of_idle rfl h.bitPos_le (fun _ => hr) (fun _ => hr) (fun _ => rfl)

/-- Outside `IDLE` the transceiver is available: only `LISTEN` and `SEND` lead out of it. -/
theorem TxInv.available_of_mode_ne_idle {x : Transceiver} (h : TxInv x) (hm : x.mode ≠ .idle) : x.available = true := by
  by_contra ha
  exact hm (h.unavailable_idle (by simpa using ha)).1

/-- A timer that serves the decoder does not run at the transmit rate (R45 (e)). -/
theorem TxInv.rate_ne_tx {x : Transceiver} (h : TxInv x) (hm : x.mode = .listen ∨ x.mode = .read)
    (ht : x.terr = .none) : x.timerRate ≠ .tx := by
  rcases hm with hm | hm <;> simp [h.rate_iff_write ht, hm, Mode.active]

/-- A listening tick (R171). -/
theorem txInv_tickListen (v : Bool) (r : TimerResult) {x : Transceiver} (h : TxInv x) (hr : x.timerRun = true)
    (hm : x.mode = .listen) : TxInv (tickListen v r x) := by
  have ha : x.available = true := h.available_of_mode_ne_idle (by simp [hm])
  have hw := h.rate_ne_tx (.inl hm)
  obtain ⟨h0, e⟩ | ⟨-, -, e⟩ | ⟨-, -, e⟩ := tickListen_cases v r x <;> rw [e]
  · exact txInv_finishIn r ha h.bitPos_le h0
  · exact .of_active ha rfl (by simp) (by simp) hr (by simpa using hw)
  · exact .of_active ha (by simp [hm, Mode.active]) h.bitPos_le (by simp [hm]) hr (by simpa [hm] using hw)

/-- One more sample keeps the capture in range, below the stall (R178, R179). -/
theorem shiftIn_capture_range {c : BitVec 16} (v : Bool) (h1 : 1 ≤ c.toNat) (h2 : isStalled c = false) :
    1 ≤ (shiftIn c v).toNat ∧ (shiftIn c v).toNat ≤ 0x1FF := by
  have h3 : c.toNat ≤ 0xFF := by simpa [isStalled, capStall, BitVec.lt_def] using h2
  have hv : v.toNat ≤ 1 := v.toNat_le
  rw [toNat_shiftIn]
  omega

/-- A reading tick that goes on reading (R179) appends its sample to a capture that is not stalled. -/
theorem txInv_appendSample (v : Bool) {x : Transceiver} (ha : x.available = true) (hm : x.mode = .read)
    (hb : x.bitPos.toNat ≤ 33) (h1 : 1 ≤ x.capture.toNat) (h2 : isStalled x.capture = false) (hr : x.timerRun = true)
    (hw : x.terr = .none → x.timerRate ≠ .tx) : TxInv (appendSample v x) :=
  .of_active ha (by simp [appendSample, hm, Mode.active]) hb (fun _ => shiftIn_capture_range v h1 h2) hr
    (by simpa [appendSample, hm] using hw)

/-- The stop bit (R176): one of two protocol errors, or a whole frame of good parity. -/
theorem txInv_stopBit (last : Bool) (r : TimerResult) {x : Transceiver} (ha : x.available = true)
    (hb : x.bitPos = 33) : TxInv (stopBit last r x) := by
  have hb' : x.bitPos.toNat ≤ 33 := by simp [hb]
  obtain ⟨-, e⟩ | ⟨-, -, e⟩ | ⟨-, hp, e⟩ := stopBit_cases last r x <;> rw [e]
  · exact txInv_raiseProtocolError r ha hb' (by simp)
  · exact txInv_raiseProtocolError r ha hb' (by simp)
  · exact txInv_finishIn r ha hb' ⟨hb, hp⟩

/-- The position of the next data point of a frame that is not complete (R175). -/
theorem bitPos_succ_le {p : BitVec 6} (h : p.toNat ≤ 33) (hne : p ≠ 33) : (p + 1).toNat ≤ 33 := by
  have : p.toNat ≠ 33 := fun e => hne (BitVec.eq_of_toNat_eq e)
  rw [BitVec.toNat_add_of_lt] <;> simp <;> omega

/-- A reading tick (R172). -/
theorem txInv_tickRead (v : Bool) (r : TimerResult) {x : Transceiver} (h : TxInv x) (hr : x.timerRun = true)
    (hm : x.mode = .read) : TxInv (tickRead v r x) := by
  have ha : x.available = true := h.available_of_mode_ne_idle (by simp [hm])
  have hw := h.rate_ne_tx (.inr hm)
  obtain ⟨-, -, e⟩ | ⟨-, hs, e⟩ | ⟨-, -, -, e⟩ | ⟨-, -, hb, e⟩ | ⟨-, -, hb, e⟩ | ⟨-, -, -, e⟩ := tickRead_cases v r x <;>
    rw [e]
  · exact txInv_raiseProtocolError r ha h.bitPos_le (by simp)
  · exact txInv_appendSample v ha hm h.bitPos_le (h.read_capture hm).1 hs hr hw
  · exact txInv_raiseProtocolError r ha h.bitPos_le (by simp)
  · exact txInv_stopBit _ r ha hb
  · exact txInv_appendSample v ha hm (bitPos_succ_le h.bitPos_le hb) (by simp) rfl hr hw
  · exact txInv_appendSample v ha hm h.bitPos_le (by simp) rfl hr hw

/-- The stop bit's slot sends a logical 1 (R107). -/
theorem slotBit_zero {data : Word} {p : BitVec 6} {b : Bool} (h : slotBit data p = some b) (hp : p = 0) : b = true := by
  simpa [slotBit, hp] using h.symm

/-- A writing tick (R200): the last one leaves the line at its idle level (R203). -/
theorem txInv_tickWrite {b : Bool} (r : TimerResult) {x : Transceiver} (h : TxInv x) (hr : x.timerRun = true)
    (hm : x.mode = .write) (hb : slotBit x.data x.bitPos = some b) : TxInv (tickWrite b r x) := by
  have ha : x.available = true := h.available_of_mode_ne_idle (by simp [hm])
  have hact : x.mode.active = true := by simp [hm, Mode.active]
  have hread : x.mode ≠ .read := by simp [hm]
  have hle := h.bitPos_le
  obtain ⟨-, e⟩ | ⟨-, h0, e⟩ | ⟨-, h0, e⟩ := tickWrite_cases b r x <;> rw [e]
  · exact .of_active ha hact hle (absurd · hread) hr (h.rate_iff_write · hact)
  · exact txInv_finishIn r ha hle ⟨slotBit_zero hb h0, h0, rfl⟩
  · refine .of_active ha hact ?_ (absurd · hread) hr (h.rate_iff_write · hact)
    change (x.bitPos - 1).toNat ≤ 33
    bv_omega

/-- Every effect on the transceiver record keeps its invariant. -/
theorem TxEffect.txInv {s : State} {x : Transceiver} (e : TxEffect s x) (h : TxInv s.tx) : TxInv x := by
  cases e with
  | keep => exact h
  | init hi => exact txInv_init _ h hi
  | listen ha => exact txInv_startListening _ _ h ha
  | send f ha => exact txInv_startSending _ f h ha
  | stop => exact txInv_stopTransceiver _ h
  | tickListen v hr hm => exact txInv_tickListen v _ h hr hm
  | tickRead v hr hm => exact txInv_tickRead v _ h hr hm
  | tickWrite b hr hm hb => exact txInv_tickWrite _ h hr hm hb

end Sys2Proof.Machine
end

section
/-! PROOFS. The pins (R29): which operations write `line_out` and the marks of `INIT`, and the idle level of the line
(R45 (f)). -/

namespace Sys2Proof.Machine

/-- The registers of R29 are the same: the level of the output pin and the two marks of `INIT`. -/
def SamePins (x y : Transceiver) : Prop :=
  y.lineOut = x.lineOut ∧ y.inited = x.inited ∧ y.initFailed = x.initFailed

theorem samePins_finishIn (m : Mode) (r : TimerResult) (x : Transceiver) : SamePins x (finishIn m r x) := by
  obtain ⟨-, e⟩ | ⟨-, -, e⟩ | ⟨-, -, e⟩ := finishIn_cases m r x <;> simp [SamePins, e]

theorem samePins_raiseProtocolError (t : ProtocolError) (r : TimerResult) (x : Transceiver) :
    SamePins x (raiseProtocolError t r x) := samePins_finishIn .errorProtocol r { x with err := t }

theorem samePins_stopTransceiver (r : TimerResult) (x : Transceiver) : SamePins x (stopTransceiver r x) := by
  obtain ⟨-, e⟩ | ⟨-, -, e⟩ | ⟨-, -, e⟩ := stopTransceiver_cases r x <;> simp [SamePins, e]

theorem samePins_startListening (e : Env) (ms : Word) (x : Transceiver) : SamePins x (startListening e ms x) := by
  obtain ⟨-, -, e⟩ | ⟨-, -, e⟩ | ⟨-, -, e⟩ := startListening_cases e ms x <;> simp [SamePins, e]

theorem samePins_startSending (e : Env) (f : Frame) (x : Transceiver) : SamePins x (startSending e f x) := by
  obtain ⟨-, -, e⟩ | ⟨-, -, e⟩ | ⟨-, -, e⟩ := startSending_cases e f x <;> simp [SamePins, e]

theorem samePins_tickListen (v : Bool) (r : TimerResult) (x : Transceiver) : SamePins x (tickListen v r x) := by
  obtain ⟨-, e⟩ | ⟨-, -, e⟩ | ⟨-, -, e⟩ := tickListen_cases v r x <;> rw [e]
  · exact samePins_finishIn _ r x
  · exact ⟨rfl, rfl, rfl⟩
  · exact ⟨rfl, rfl, rfl⟩

theorem samePins_stopBit (last : Bool) (r : TimerResult) (x : Transceiver) : SamePins x (stopBit last r x) := by
  obtain ⟨-, e⟩ | ⟨-, -, e⟩ | ⟨-, -, e⟩ := stopBit_cases last r x <;> rw [e]
  · exact samePins_raiseProtocolError _ r x
  · exact samePins_raiseProtocolError _ r x
  · exact samePins_finishIn _ r x

theorem samePins_tickRead (v : Bool) (r : TimerResult) (x : Transceiver) : SamePins x (tickRead v r x) := by
  obtain ⟨-, -, e⟩ | ⟨-, -, e⟩ | ⟨-, -, -, e⟩ | ⟨-, -, -, e⟩ | ⟨-, -, -, e⟩ | ⟨-, -, -, e⟩ := tickRead_cases v r x <;>
    rw [e]
  · exact samePins_raiseProtocolError _ r x
  · exact ⟨rfl, rfl, rfl⟩
  · exact samePins_raiseProtocolError _ r x
  · exact samePins_stopBit _ r x
  · exact ⟨rfl, rfl, rfl⟩
  · exact ⟨rfl, rfl, rfl⟩

/-- A writing tick drives the line and leaves the marks of `INIT`. -/
theorem samePins_tickWrite (b : Bool) (r : TimerResult) (x : Transceiver) :
    ∃ level, SamePins { x with lineOut := level } (tickWrite b r x) := by
  obtain ⟨-, e⟩ | ⟨-, -, e⟩ | ⟨-, -, e⟩ := tickWrite_cases b r x <;> rw [e]
  · exact ⟨_, rfl, rfl, rfl⟩
  · exact ⟨b, samePins_finishIn .sent r { x with lineOut := b, clock := true }⟩
  · exact ⟨_, rfl, rfl, rfl⟩

/-- A writing tick goes on writing, or it was the last one and the line is high (R203). -/
theorem tickWrite_mode_or_high {b : Bool} (r : TimerResult) {x : Transceiver} (hm : x.mode = .write)
    (hb : slotBit x.data x.bitPos = some b) : (tickWrite b r x).mode = .write ∨ (tickWrite b r x).lineOut = true := by
  obtain ⟨-, e⟩ | ⟨-, h0, e⟩ | ⟨-, -, e⟩ := tickWrite_cases b r x <;> rw [e]
  · exact .inl hm
  · exact .inr ((samePins_finishIn .sent r _).1.trans (slotBit_zero hb h0))
  · exact .inl hm

/-- The marks of `INIT` are written by `INIT` alone, while the pins are not configured (R143). -/
theorem TxEffect.marks {s : State} {x : Transceiver} (e : TxEffect s x) :
    (s.tx.inited = false ∧ x.inited = true) ∨ (x.inited = s.tx.inited ∧ x.initFailed = s.tx.initFailed) := by
  cases e with
  | init hi => exact .inl ⟨hi, rfl⟩
  | keep => exact .inr ⟨rfl, rfl⟩
  | listen => exact .inr (samePins_startListening _ _ _).2
  | send => exact .inr (samePins_startSending _ _ _).2
  | stop => exact .inr (samePins_stopTransceiver _ _).2
  | tickListen => exact .inr (samePins_tickListen _ _ _).2
  | tickRead => exact .inr (samePins_tickRead _ _ _).2
  | tickWrite b =>
    obtain ⟨_, hp⟩ := samePins_tickWrite b s.env.disarm s.tx
    exact .inr hp.2

/-- Where the line is not driven its idle level is kept, for a `WRITE` that ends other than in `SENT` is cut short. -/
theorem lineIdle_of_samePins {cut : Bool} {x y : Transceiver} (hp : SamePins x y)
    (hs : x.mode = .write → y.mode ≠ .sent) (h : LineIdle cut x) : LineIdle (cutAfter cut x y) y := by
  obtain ⟨hline, hinit, -⟩ := hp
  intro hi hm hcut
  rw [hinit] at hi
  rw [hline]
  by_cases hw : x.mode = .write
  · have : y.mode = .sent := by simpa [cutAfter, hw, hm] using hcut
    exact absurd this (hs hw)
  · exact h hi hw (by simpa [cutAfter, hw] using hcut)

/-- Every effect on the transceiver record keeps the idle level of the line (R45 (f)). -/
theorem TxEffect.lineIdle {s : State} {x : Transceiver} {cut : Bool} (e : TxEffect s x) (h : LineIdle cut s.tx) :
    LineIdle (cutAfter cut s.tx x) x := by
  cases e with
  | keep => exact lineIdle_of_samePins ⟨rfl, rfl, rfl⟩ (fun hm => by simp [hm]) h
  | init => exact fun _ _ _ => rfl
  | listen =>
    refine lineIdle_of_samePins (samePins_startListening _ _ _) (fun hm => ?_) h
    obtain ⟨-, -, e⟩ | ⟨-, -, e⟩ | ⟨-, -, e⟩ := startListening_cases s.env s.sched.cfgTimeoutMs s.tx <;> simp [e]
  | send f =>
    refine lineIdle_of_samePins (samePins_startSending _ _ _) (fun hm => ?_) h
    obtain ⟨-, -, e⟩ | ⟨-, -, e⟩ | ⟨-, -, e⟩ := startSending_cases s.env f s.tx <;> simp [e]
  | stop => exact lineIdle_of_samePins (samePins_stopTransceiver _ _) (fun _ => by simp [stopTransceiver]) h
  | tickListen v _ hm => exact lineIdle_of_samePins (samePins_tickListen _ _ _) (fun hw => by simp [hm] at hw) h
  | tickRead v _ hm => exact lineIdle_of_samePins (samePins_tickRead _ _ _) (fun hw => by simp [hm] at hw) h
  | tickWrite b _ hm hb =>
    intro _ hne _
    exact (tickWrite_mode_or_high _ hm hb).resolve_left hne

end Sys2Proof.Machine
end

section
/-! PROOFS. The invariant of the scheduler record (R34, R45 (g)). -/

namespace Sys2Proof.Machine

/-- The invariant speaks of the list, the cursor, the configured table and the timeout only. -/
theorem SchedInv.congr {c d : Scheduler} (h : SchedInv c) (hrot : d.rot = c.rot) (hlen : d.rotLen = c.rotLen)
    (hconf : d.configured = c.configured) (hcur : d.cursor = c.cursor) (hms : d.cfgTimeoutMs = c.cfgTimeoutMs) :
    SchedInv d := by
  have hl : d.rotList = c.rotList := by simp [Scheduler.rotList, hrot, hlen]
  have hi : d.isConfigured = c.isConfigured := by funext i; simp [Scheduler.isConfigured, hconf]
  constructor
  · simpa only [hlen] using h.rotLen_le
  · simpa only [hl] using h.rot_nodup
  · simpa only [hl, hi] using h.rot_configured
  · simpa only [hlen, hcur] using h.cursor_lt
  · simpa only [hms] using h.timeout_le

/-- A list written as a whole, with the cursor at its start. -/
theorem SchedInv.writeRot {c : Scheduler} (h : SchedInv c) {l : List Ident} (rest : Vector Ident 256) (ph : Phase)
    (hlen : l.length ≤ 256) (hnd : l.Nodup) (hconf : ∀ i ∈ l, c.isConfigured i = true) :
    SchedInv { c.writeRot l rest with cursor := 0, phase := ph } := by
  have hl : Scheduler.rotList { c.writeRot l rest with cursor := 0, phase := ph } = l := c.writeRot_rotList l rest hlen
  have hn := c.writeRot_rotLen_toNat l rest hlen
  refine ⟨hn.trans_le hlen, by rwa [hl], fun i hi => hconf i (by rwa [hl] at hi), fun hne => ?_, h.timeout_le⟩
  exact Nat.pos_of_ne_zero fun h0 => hne (BitVec.eq_of_toNat_eq h0)

theorem deriveInitial_nodup (p : Platform) (c : Scheduler) : (deriveInitial p c).Nodup :=
  (List.perm_insertionSort _ _).nodup_iff.mpr (allIdents_nodup.filter _)

theorem deriveRepeating_nodup (p : Platform) (c : Scheduler) : (deriveRepeating p c).Nodup :=
  (List.perm_insertionSort _ _).nodup_iff.mpr (allIdents_nodup.filter _)

/-- A startup list holds configured identifiers only (R218). -/
theorem isConfigured_of_mem_deriveInitial {p : Platform} {c : Scheduler} {i : Ident} (h : i ∈ deriveInitial p c) :
    c.isConfigured i = true := by
  have h' := (List.mem_filter.mp ((List.mem_insertionSort _).mp h)).2
  exact (Bool.and_eq_true_iff.mp h').1

/-- A repeating list holds configured identifiers only (R219). -/
theorem isConfigured_of_mem_deriveRepeating {p : Platform} {c : Scheduler} {i : Ident} (h : i ∈ deriveRepeating p c) :
    c.isConfigured i = true := by
  have h' := (List.mem_filter.mp ((List.mem_insertionSort _).mp h)).2
  exact (Bool.and_eq_true_iff.mp h').1

/-- The start of the repeating list. -/
theorem schedInv_writeRepeating (p : Platform) (rest : Vector Ident 256) {c : Scheduler} (h : SchedInv c) :
    SchedInv { c.writeRot (deriveRepeating p c) rest with cursor := 0, phase := .repeating } :=
  h.writeRot rest _ (deriveRepeating_length_le p c) (deriveRepeating_nodup p c)
    fun _ => isConfigured_of_mem_deriveRepeating

/-- `SETUP`'s derivation (R217). -/
theorem schedInv_startRotation (p : Platform) (rest : Vector Ident 256) {c : Scheduler} (h : SchedInv c) :
    SchedInv (c.startRotation p rest) := by
  obtain ⟨-, e⟩ | ⟨-, e⟩ := c.startRotation_cases p rest <;> rw [e]
  · exact h.writeRot rest _ (deriveInitial_length_le p c) (deriveInitial_nodup p c)
      fun _ => isConfigured_of_mem_deriveInitial
  · exact schedInv_writeRepeating p rest h

/-- `AdvanceCursor` (R221): the cursor stays inside the list. -/
theorem schedInv_advanceCursor (p : Platform) (rest : Vector Ident 256) {c : Scheduler} (h : SchedInv c) :
    SchedInv (c.advanceCursor p rest) := by
  obtain ⟨-, e⟩ | ⟨hlast, e⟩ := c.advanceCursor_cases p rest <;> rw [e]
  · exact schedInv_writeRepeating p rest h
  · refine ⟨h.rotLen_le, h.rot_nodup, h.rot_configured, fun hne => ?_, h.timeout_le⟩
    have hlt := h.cursor_lt hne
    have hle := h.rotLen_le
    change (c.cursor + 1).toNat < c.rotLen.toNat
    bv_omega

/-- `CFG_MSG` only adds to the configured identifiers (R215). -/
theorem schedInv_configure (id : Ident) (o : Byte) {c : Scheduler} (h : SchedInv c) : SchedInv (c.configure id o) :=
  ⟨h.rotLen_le, h.rot_nodup, fun i hi => by simp [h.rot_configured i hi], h.cursor_lt, h.timeout_le⟩

/-- `CFG_CTRL` writes a legal timeout (R41, R216). -/
theorem schedInv_cfgCtrl (sync : Bool) {ms : BitVec 30} (hms : ms.toNat ≤ maxTimeoutMs) {c : Scheduler}
    (h : SchedInv c) : SchedInv { c with cfgSync := sync, cfgTimeoutMs := ms.setWidth 32 } := by
  refine ⟨h.rotLen_le, h.rot_nodup, h.rot_configured, h.cursor_lt, ?_⟩
  exact (BitVec.toNat_setWidth_of_le (show 30 ≤ 32 by decide)).trans_le hms

/-- Every effect on the scheduler record keeps its invariant. -/
theorem SchedEffect.schedInv {s : State} {c : Scheduler} (e : SchedEffect s c) (h : SchedInv s.sched) : SchedInv c := by
  cases e with
  | keep => exact h
  | cfgMsg id order => exact schedInv_configure id order h
  | cfgCtrl sync ms _ hms => exact schedInv_cfgCtrl sync hms h
  | setupFailed | startConversation | retry | fail => exact h.congr rfl rfl rfl rfl rfl
  | setup => exact (schedInv_startRotation s.platform s.env.rotRest h).congr rfl rfl rfl rfl rfl
  | advance => exact (schedInv_advanceCursor s.platform s.env.rotRest h).congr rfl rfl rfl rfl rfl

/-- Where the invariant holds, a list that is not empty has an entry under the cursor (R84). -/
theorem SchedInv.current_isSome {c : Scheduler} (h : SchedInv c) (hne : c.rotLen ≠ 0) : c.current ≠ none := by
  simp [Scheduler.current, h.cursor_lt hne]

end Sys2Proof.Machine
end

section
/-! PROOFS. What every step keeps (10_state.md): the invariant from reset on and what follows from it, the idle level of the
line, and which registers an operation may write. -/

namespace Sys2Proof.Machine

/-- Every operation keeps the invariant. The boot order holds because `INIT`, which alone writes `init_failed`, is refused
once the pins are configured, and `SETUP` is refused before that. -/
theorem blockInv_exec {i : Instr} {s t : State} (h : BlockInv s) (he : exec i s = .next t) : BlockInv t := by
  have etx := exec_tx he
  have esched := exec_sched he
  have inited_before (hd : t.sched.setupDone = true) : s.tx.inited = true :=
    (esched.setupDone_or_inited hd).elim h.setup_inited id
  have marks (hd : t.sched.setupDone = true) : t.tx.inited = s.tx.inited ∧ t.tx.initFailed = s.tx.initFailed :=
    etx.marks.resolve_left fun hm => by simp [inited_before hd] at hm
  refine ⟨etx.txInv h.tx, esched.schedInv h.sched, fun hd => (marks hd).1.trans (inited_before hd), fun hd hf => ?_⟩
  exact esched.failed_of_initFailed h.setup_failed hd ((marks hd).2 ▸ hf)

/-- Settles O9: each operation keeps it, by its effect on either record. -/
theorem everyStepKeepsTheInvariant : Obligations.EveryStepKeepsTheInvariant := by
  intro s t h hstep
  obtain rfl | ⟨p, rest, i, he⟩ := step_next hstep
  · exact ⟨h.tx, h.sched, h.setup_inited, h.setup_failed⟩
  · exact blockInv_exec (s := { s with port := rest, env := p.env }) ⟨h.tx, h.sched, h.setup_inited, h.setup_failed⟩ he

/-- Settles O60: the reset state drives the line high, and each effect on the transceiver record keeps its idle level. -/
theorem lineIsHighUnlessAWriteWasCutShort : Obligations.LineIsHighUnlessAWriteWasCutShort := by
  refine ⟨fun _ _ _ _ => rfl, fun cut s t h hstep => ?_⟩
  obtain rfl | ⟨p, rest, i, he⟩ := step_next hstep
  · exact TxEffect.lineIdle (s := s) .keep h
  · exact (exec_tx he).lineIdle h

/-- Settles O10: the slot `bit_pos` exists by R45 (b), and the entry under the cursor by R45 (g). -/
theorem noFaultWhereTheInvariantHolds : Obligations.NoFaultWhereTheInvariantHolds := by
  intro s r h hstep
  rcases step_cases s with e | ⟨p, rest, i, e⟩ | ⟨why, e⟩ <;> rw [e] at hstep
  · cases hstep
  · rcases exec_fault hstep with hslot | ⟨hne, hcur⟩
    · have hsome := (slotBit_isSome s.tx.data s.tx.bitPos).mpr h.tx.bitPos_le
      simp [hslot] at hsome
    · exact h.sched.current_isSome hne hcur
  · cases hstep

/-- Settles O51: the surroundings are never written, and each record is written by its own operations. -/
theorem eachContextWritesItsOwnRecord : Obligations.EachContextWritesItsOwnRecord := by
  intro i s t h
  refine ⟨exec_sameSurroundings h, ?_⟩
  cases i with
  | init | listen | send _ _ _ _ | getMessage | getProtocolError | stop | tick _ =>
    exact exec_sched_of_leavesSched (by trivial) h
  | cfgMsg id order => obtain ⟨-, rfl⟩ := execCfgMsg_next h; rfl
  | cfgCtrl sync ms => obtain ⟨-, -, rfl⟩ := execCfgCtrl_next h; rfl
  | setup => obtain ⟨-, -, htx, -⟩ := execSetup_next h; exact htx
  | loop now =>
    obtain htx | ⟨ha, htx⟩ | ⟨ha, f, htx⟩ | htx := execLoop_tx h
    · exact .inl htx
    · exact .inr (.inl ⟨_, execListen_of_available ha, htx⟩)
    · exact .inr (.inr (.inl ⟨f.ty, f.id, f.hb, f.lb, _, execSend_of_available f ha, htx⟩))
    · exact .inr (.inr (.inr ⟨_, rfl, htx⟩))

/-- Settles O52: none of the effects on the scheduler record writes the configuration once `setup_done` is set. -/
theorem configurationIsFrozenBySetup : Obligations.ConfigurationIsFrozenBySetup :=
  fun _ _ _ hd h => (exec_sched h).sameConfig hd

/-- Settles O53: no effect clears `failed`; once set up, a failed scheduler's operations are refused or do nothing to it. -/
theorem failureIsPermanent : Obligations.FailureIsPermanent :=
  fun _ _ _ hf h =>
    ⟨(exec_sched h).failed hf, fun hd => ⟨(exec_sched h).eq_of_failed hd hf, exec_events_of_failed hd hf h⟩⟩

/-- Settles O7: the reset table's entries, those of the three tables being replicated ones. -/
theorem resetRegisterValues : Obligations.ResetRegisterValues := by
  intro p
  refine ⟨rfl, fun i => ⟨?_, ?_⟩, fun k => ?_, rfl, rfl, rfl, rfl, rfl, rfl, rfl, rfl, rfl, rfl, rfl⟩
  · simp [State.resetOn, Scheduler.reset, Scheduler.isConfigured]
  · simp [State.resetOn, Scheduler.reset, Scheduler.orderOf]
  · simp [State.resetOn, Scheduler.reset]

/-- The transceiver record after reset is idle with its timer stopped. -/
theorem txInv_reset : TxInv Transceiver.reset :=
  .of_idle rfl (by decide) (fun _ => rfl) (fun _ => rfl) (fun h => h)

/-- The rotation list after reset is empty. -/
theorem schedInv_reset : SchedInv Scheduler.reset := by
  have hl : Scheduler.reset.rotList = [] := List.take_zero
  exact ⟨by decide, by simp [hl], by simp [hl], fun h => absurd rfl h, by decide⟩

/-- Settles O8: both records meet theirs, and `setup_done` is 0. -/
theorem resetMeetsTheInvariant : Obligations.ResetMeetsTheInvariant :=
  fun _ => ⟨txInv_reset, schedInv_reset, (nomatch ·), (nomatch ·)⟩

/-- Settles O23: `TICK` tests `timer_run` before it looks at the mode. -/
theorem tickWithTheTimerStopped : Obligations.TickWithTheTimerStopped := fun _ _ hr => by
  simp only [exec, execTick, State.beginStep_tx, hr]
  rfl

end Sys2Proof.Machine
end

section
/-! PROOFS. The accesses of 20_memory.md: which operations drive the output pin, and the two reads of an entry that does
not exist. -/

namespace Sys2Proof.Machine

/-! ### The line primitive -/

/-- A tick leaves the pins unless it is one in mode `WRITE` of a running timer. -/
theorem execTick_pins {v : Bool} {s t : State} (h : execTick v s = .next t) :
    (s.tx.mode = .write ∧ s.tx.timerRun = true) ∨ SamePins s.tx t.tx := by
  obtain ⟨-, rfl⟩ | ⟨-, -, rfl⟩ | ⟨-, -, rfl⟩ | ⟨hr, hm, -⟩ := execTick_next h
  · exact .inr ⟨rfl, rfl, rfl⟩
  · exact .inr (samePins_tickListen _ _ _)
  · exact .inr (samePins_tickRead _ _ _)
  · exact .inl ⟨hm, hr⟩

/-- `LOOP` leaves the pins, for it does no more than the three commands do. -/
theorem execLoop_samePins {now : Millis} {s t : State} (h : execLoop now s = .next t) : SamePins s.tx t.tx := by
  obtain htx | ⟨-, htx⟩ | ⟨-, _, htx⟩ | htx := execLoop_tx h <;> rw [htx]
  · exact ⟨rfl, rfl, rfl⟩
  · exact samePins_startListening _ _ _
  · exact samePins_startSending _ _ _
  · exact samePins_stopTransceiver _ _

/-- Only `INIT` and a tick in mode `WRITE` reach the pins (R29, R75). -/
theorem exec_pins {i : Instr} {s t : State} (h : exec i s = .next t) :
    i = .init ∨ ((∃ v, i = .tick v) ∧ s.tx.mode = .write ∧ s.tx.timerRun = true) ∨ SamePins s.tx t.tx := by
  cases i with
  | init => exact .inl rfl
  | tick v =>
    obtain hw | hp := execTick_pins h
    · exact .inr (.inl ⟨⟨v, rfl⟩, hw⟩)
    · exact .inr (.inr hp)
  | listen =>
    obtain ⟨-, rfl⟩ := State.listen_next h
    exact .inr (.inr (samePins_startListening _ _ _))
  | send ty id hb lb =>
    obtain ⟨-, rfl⟩ := State.send_next h
    exact .inr (.inr (samePins_startSending _ _ _))
  | stop =>
    cases h
    exact .inr (.inr (samePins_stopTransceiver _ _))
  | loop now => exact .inr (.inr (execLoop_samePins h))
  | getMessage | getProtocolError =>
    cases h
    exact .inr (.inr ⟨rfl, rfl, rfl⟩)
  | cfgMsg id order =>
    obtain ⟨-, rfl⟩ := execCfgMsg_next h
    exact .inr (.inr ⟨rfl, rfl, rfl⟩)
  | cfgCtrl sync ms =>
    obtain ⟨-, -, rfl⟩ := execCfgCtrl_next h
    exact .inr (.inr ⟨rfl, rfl, rfl⟩)
  | setup =>
    obtain ⟨-, -, htx, -⟩ := execSetup_next h
    rw [htx]
    exact .inr (.inr ⟨rfl, rfl, rfl⟩)

/-- Settles O55: every other operation leaves the pins as they are. -/
theorem lineIsDrivenByInitAndWriteTicks : Obligations.LineIsDrivenByInitAndWriteTicks := by
  intro i s t h hne
  obtain hi | hw | ⟨hline, -⟩ := exec_pins h
  · exact .inl hi
  · exact .inr hw
  · exact absurd hline hne

/-! ### The two faults (log 6) -/

/-- No frame has a slot above 33 (R201). -/
theorem slotBit_eq_none_iff (data : Word) (p : BitVec 6) : slotBit data p = none ↔ 33 < p.toNat := by
  rw [← Option.not_isSome_iff_eq_none, slotBit_isSome, Nat.not_le]

/-- There is no entry under a cursor at or past the end of the list (R84). -/
theorem Scheduler.current_eq_none_iff (c : Scheduler) : c.current = none ↔ c.rotLen.toNat ≤ c.cursor.toNat := by
  simp [Scheduler.current]

/-- The gap is over when no conversation has ended yet or the last one ended 100 ms ago or earlier (R231). -/
theorem gapPending_eq_false_iff (now : Millis) (c : Scheduler) :
    gapPending now c = false ↔ (c.convEndValid = true → 100 ≤ (now - c.convEnd).toNat) := by
  simp [gapPending, elapsed, minGapMs, BitVec.lt_def]

/-- A writing tick of a slot that does not exist. -/
theorem execTick_of_slotBit_eq_none {s : State} (v : Bool) (hr : s.tx.timerRun = true) (hm : s.tx.mode = .write)
    (hb : slotBit s.tx.data s.tx.bitPos = none) : execTick v s = .fault .frameSlotAbsent := by
  simp [execTick, hr, hm, hb]

/-- `LOOP` on `IDLE` of a component that is set up and not failed (R225). -/
theorem execLoop_of_idle {s : State} (now : Millis) (hd : s.sched.setupDone = true) (hf : s.sched.failed = false)
    (hm : s.tx.mode = .idle) : execLoop now s = s.beginStep.loopIdle now := by
  simp [execLoop, hd, hf, hm]

/-- A conversation that is due with no entry under the cursor. -/
theorem State.loopIdle_of_current_eq_none {now : Millis} {s : State} (hg : gapPending now s.sched = false)
    (hn : s.sched.rotLen ≠ 0) (hc : s.sched.current = none) : s.loopIdle now = .fault .rotationEntryAbsent := by
  unfold State.loopIdle
  rw [hg, if_neg Bool.false_ne_true, if_neg hn, hc]

/-- Settles O11: above slot 33 there is no bit to send, and past the end of the list no identifier to request. -/
theorem absentEntriesFault : Obligations.AbsentEntriesFault := by
  refine ⟨fun s v hr hm hp => ?_, fun s now hd hf hm hgap hn hcur => ?_⟩
  · exact execTick_of_slotBit_eq_none v hr hm ((slotBit_eq_none_iff _ _).mpr hp)
  · have hloop : s.beginStep.loopIdle now = .fault .rotationEntryAbsent :=
      State.loopIdle_of_current_eq_none (s := s.beginStep) ((gapPending_eq_false_iff _ _).mpr hgap) hn
        ((Scheduler.current_eq_none_iff _).mpr hcur)
    exact (execLoop_of_idle now hd hf hm).trans hloop

end Sys2Proof.Machine
end

section
/-! PROOFS. Fields of a word: what a field taken out of a word, placed in one, or masked holds. -/

namespace Sys2Proof

/-- A placed field is read back. -/
theorem extractLsb'_place_self {n m lo : Nat} (field : BitVec n) (h : lo + n ≤ m) :
    (place m lo field).extractLsb' lo n = field := by
  apply BitVec.eq_of_getLsbD_eq
  intro k hk
  simp [hk, show lo + k < m by omega]

/-- A placed field leaves the bits outside its own 0. -/
theorem extractLsb'_place_of_disjoint {n m lo start len : Nat} (field : BitVec n)
    (h : start + len ≤ lo ∨ lo + n ≤ start) : (place m lo field).extractLsb' start len = 0 := by
  apply BitVec.eq_of_getLsbD_eq
  intro k hk
  rcases h with h | h
  · simp [show ¬ lo ≤ start + k by omega]
  · simp [BitVec.getLsbD_of_ge field (start + k - lo) (by omega)]

/-- A field taken out of a word and placed where it was is the word under the field's mask. -/
theorem place_extractLsb' {m : Nat} (w : BitVec m) (lo n : Nat) :
    place m lo (w.extractLsb' lo n) = w &&& place m lo (BitVec.allOnes n) := by
  apply BitVec.eq_of_getLsbD_eq
  intro k hk
  by_cases hlo : lo ≤ k
  · simp [hk, hlo, Bool.and_comm]
  · simp [hlo]

/-- A field is zero exactly when its mask leaves nothing of the word. -/
theorem extractLsb'_eq_zero_iff {m : Nat} (w : BitVec m) {lo n : Nat} (h : lo + n ≤ m) :
    w.extractLsb' lo n = 0 ↔ w &&& place m lo (BitVec.allOnes n) = 0 := by
  rw [← place_extractLsb']
  refine ⟨fun h0 => ?_, fun h0 => ?_⟩
  · simp [h0, place]
  · rw [← extractLsb'_place_self (w.extractLsb' lo n) h, h0]
    exact BitVec.extractLsb'_zero

/-- A word whose masked bits are 0 is the word under the complement of the mask. -/
theorem and_not_eq_self {m : Nat} {w mask : BitVec m} (h : w &&& mask = 0) : w &&& ~~~mask = w :=
  calc w &&& ~~~mask = w &&& mask ||| w &&& ~~~mask := by rw [h]; exact BitVec.zero_or.symm
    _ = w &&& BitVec.allOnes m := by rw [← BitVec.and_or_distrib_left, BitVec.or_not_self]
    _ = w := BitVec.and_allOnes

/-- A one-bit field is its bit. -/
theorem ofBool_getLsbD {m : Nat} (w : BitVec m) (k : Nat) : BitVec.ofBool (w.getLsbD k) = w.extractLsb' k 1 := by
  apply BitVec.eq_of_getLsbD_eq
  intro j hj
  simp [Nat.lt_one_iff.mp hj]

/-- The operation code and the argument determine a command word (R115). -/
theorem commandWord_ext {w w' : CommandWord} (hop : opOf w = opOf w') (harg : argOf w = argOf w') : w = w' := by
  apply BitVec.eq_of_getLsbD_eq
  intro k hk
  by_cases hlo : k < 32
  · simpa [argOf, hlo] using congrArg (·.getLsbD k) harg
  · have hbit := congrArg (·.getLsbD (k - 32)) hop
    simpa [opOf, show k - 32 < 4 by omega, show 32 + (k - 32) = k by omega] using hbit

end Sys2Proof
end

section
/-! PROOFS. The decoder (R115 to R117): it inverts the encoder, and everything it can answer for a word. -/

namespace Sys2Proof

/-! ### Decoding an encoded operation -/

theorem decodeSend_arg (ty : BitVec 3) (id : Ident) (hb lb : Byte) :
    decodeSend (Instr.send ty id hb lb).arg = .ok (.send ty id hb lb) := by
  simp [decodeSend, Instr.arg, BitVec.extractLsb'_or, extractLsb'_place_self, extractLsb'_place_of_disjoint]

theorem decodeTick_arg (v : Bool) : decodeTick (Instr.tick v).arg = .ok (.tick v) := by
  simp [decodeTick, Instr.arg, extractLsb'_place_of_disjoint]

theorem decodeCfgMsg_arg (id : Ident) (order : Byte) :
    decodeCfgMsg (Instr.cfgMsg id order).arg = .ok (.cfgMsg id order) := by
  simp [decodeCfgMsg, Instr.arg, BitVec.extractLsb'_or, extractLsb'_place_self, extractLsb'_place_of_disjoint]

theorem decodeCfgCtrl_arg (sync : Bool) {timeoutMs : BitVec 30} (h : timeoutMs.toNat ≤ maxTimeoutMs) :
    decodeCfgCtrl (Instr.cfgCtrl sync timeoutMs).arg = .ok (.cfgCtrl sync timeoutMs) := by
  simp [decodeCfgCtrl, Instr.arg, BitVec.extractLsb'_or, extractLsb'_place_self, extractLsb'_place_of_disjoint, h]

/-- The decoder answers a well-formed operation for its own word. -/
theorem decode_encode {i : Instr} (h : i.wellFormed = true) : decode (encode i) = .ok i := by
  rw [decode, opOf_encode, argOf_encode]
  cases i with
  | init | listen | getMessage | getProtocolError | stop | setup | loop _ => rfl
  | send ty id hb lb => exact decodeSend_arg ty id hb lb
  | tick v => exact decodeTick_arg v
  | cfgMsg id order => exact decodeCfgMsg_arg id order
  | cfgCtrl sync ms => exact decodeCfgCtrl_arg sync (of_decide_eq_true h)

/-! ### Everything the decoder can answer -/

/-- The must-be-zero argument bits of an operation code (R116); `opcodeTable_layout` reads them off the table. -/
def reservedMask (op : BitVec 4) : Word :=
  match op.toNat with
  | 0x2 => 0x8F000000
  | 0x6 => 0xFFFFFFFE
  | 0x7 => 0xFFFF0000
  | 0x8 => 0x40000000
  | 0xA => 0
  | _ => 0xFFFFFFFF

/-- The must-be-zero bits of a command word that are 1 all the same. -/
def reservedBits (w : CommandWord) : Word := argOf w &&& reservedMask (opOf w)

/-- What is answered for the argument `arg` of the assigned operation code `op`, whose must-be-zero bits are `mask`. -/
inductive ArgAnswer (op : BitVec 4) (mask arg : Word) : Except DecodeError Instr → Prop
  | reserved (hres : arg &&& mask ≠ 0) : ArgAnswer op mask arg (.error .reservedBitSet)
  | outOfRange (hres : arg &&& mask = 0) (hop : op = 0x8) (ht : maxTimeoutMs < (arg.extractLsb' 0 30).toNat) :
      ArgAnswer op mask arg (.error .timeoutOutOfRange)
  | accepted {i : Instr} (hres : arg &&& mask = 0) (hop : i.op = op) (harg : i.arg = arg) (hwf : i.wellFormed = true) :
      ArgAnswer op mask arg (.ok i)

/-- An operation whose argument layout is `arg` without the must-be-zero bits is the one accepted. -/
theorem ArgAnswer.of_fields {op : BitVec 4} {mask arg : Word} {i : Instr} (hres : arg &&& mask = 0) (hop : i.op = op)
    (harg : i.arg = arg &&& ~~~mask) (hwf : i.wellFormed = true) : ArgAnswer op mask arg (.ok i) :=
  .accepted hres hop (harg.trans (and_not_eq_self hres)) hwf

/-- Every argument decoder tests the must-be-zero bits first. -/
theorem ArgAnswer.of_test {op : BitVec 4} {mask arg : Word} {test : Prop} [Decidable test]
    {answer : Except DecodeError Instr} (htest : test ↔ arg &&& mask = 0)
    (hok : arg &&& mask = 0 → ArgAnswer op mask arg answer) :
    ArgAnswer op mask arg (if test then answer else .error .reservedBitSet) := by
  split
  case isTrue h => exact hok (htest.mp h)
  case isFalse h => exact .reserved fun h0 => h (htest.mpr h0)

theorem argAnswer_decodeBare {i : Instr} (arg : Word) (harg : i.arg = 0) (hwf : i.wellFormed = true) :
    ArgAnswer i.op 0xFFFFFFFF arg (decodeBare i arg) := by
  have hmask : arg &&& 0xFFFFFFFF = arg := BitVec.and_allOnes
  exact .of_test (by rw [hmask]) fun h0 => .accepted h0 rfl (harg.trans (hmask.symm.trans h0).symm) hwf

theorem argAnswer_decodeSend (arg : Word) : ArgAnswer 0x2 0x8F000000 arg (decodeSend arg) := by
  refine .of_test ?_ fun hres => .of_fields hres rfl ?_ rfl
  · rw [extractLsb'_eq_zero_iff arg (by decide), extractLsb'_eq_zero_iff arg (by decide)]
    exact BitVec.or_eq_zero_iff.symm.trans (by rw [← BitVec.and_or_distrib_left]; rfl)
  · simp only [Instr.arg, place_extractLsb', ← BitVec.and_or_distrib_left]
    rfl

theorem argAnswer_decodeTick (arg : Word) : ArgAnswer 0x6 0xFFFFFFFE arg (decodeTick arg) := by
  refine .of_test (extractLsb'_eq_zero_iff arg (by decide)) fun hres => .of_fields hres rfl ?_ rfl
  rw [Instr.arg, ofBool_getLsbD, place_extractLsb']
  rfl

theorem argAnswer_decodeCfgMsg (arg : Word) : ArgAnswer 0x7 0xFFFF0000 arg (decodeCfgMsg arg) := by
  refine .of_test (extractLsb'_eq_zero_iff arg (by decide)) fun hres => .of_fields hres rfl ?_ rfl
  simp only [Instr.arg, place_extractLsb', ← BitVec.and_or_distrib_left]
  rfl

/-- Of `CFG_CTRL`'s argument the must-be-zero bit is tested before the range (R117). -/
theorem argAnswer_decodeCfgCtrl (arg : Word) : ArgAnswer 0x8 0x40000000 arg (decodeCfgCtrl arg) := by
  refine .of_test (extractLsb'_eq_zero_iff arg (by decide)) fun hres => ?_
  split
  case isTrue ht =>
    refine .of_fields hres rfl ?_ (decide_eq_true ht)
    simp only [Instr.arg, ofBool_getLsbD, place_extractLsb', ← BitVec.and_or_distrib_left]
    rfl
  case isFalse ht => exact .outOfRange hres rfl (Nat.not_le.mp ht)

/-- `LOOP` has no must-be-zero bit. -/
theorem argAnswer_loop (arg : Word) : ArgAnswer 0xA 0 arg (.ok (.loop arg)) :=
  .accepted BitVec.and_zero rfl rfl rfl

/-- Everything the decoder can answer (R116, R117): an unassigned code is refused, and an assigned one has its argument
decoded. -/
theorem decode_cases (w : CommandWord) :
    (0xB ≤ (opOf w).toNat ∧ decode w = .error .unassignedOperation) ∨
    ((opOf w).toNat ≤ 0xA ∧ ArgAnswer (opOf w) (reservedMask (opOf w)) (argOf w) (decode w)) := by
  unfold decode
  generalize argOf w = arg
  obtain ⟨n, hn⟩ : ∃ n : Fin 16, opOf w = BitVec.ofFin n := ⟨(opOf w).toFin, rfl⟩
  rw [hn]
  fin_cases n
  · exact .inr ⟨by decide, argAnswer_decodeBare (i := .init) arg rfl rfl⟩
  · exact .inr ⟨by decide, argAnswer_decodeBare (i := .listen) arg rfl rfl⟩
  · exact .inr ⟨by decide, argAnswer_decodeSend arg⟩
  · exact .inr ⟨by decide, argAnswer_decodeBare (i := .getMessage) arg rfl rfl⟩
  · exact .inr ⟨by decide, argAnswer_decodeBare (i := .getProtocolError) arg rfl rfl⟩
  · exact .inr ⟨by decide, argAnswer_decodeBare (i := .stop) arg rfl rfl⟩
  · exact .inr ⟨by decide, argAnswer_decodeTick arg⟩
  · exact .inr ⟨by decide, argAnswer_decodeCfgMsg arg⟩
  · exact .inr ⟨by decide, argAnswer_decodeCfgCtrl arg⟩
  · exact .inr ⟨by decide, argAnswer_decodeBare (i := .setup) arg rfl rfl⟩
  · exact .inr ⟨by decide, argAnswer_loop arg⟩
  all_goals exact .inl ⟨by decide, rfl⟩

theorem decode_unassigned {w : CommandWord} (h : 0xB ≤ (opOf w).toNat) : decode w = .error .unassignedOperation := by
  obtain ⟨-, e⟩ | ⟨hle, -⟩ := decode_cases w
  · exact e
  · omega

theorem argAnswer_decode {w : CommandWord} (h : (opOf w).toNat ≤ 0xA) :
    ArgAnswer (opOf w) (reservedMask (opOf w)) (argOf w) (decode w) := by
  obtain ⟨hge, -⟩ | ⟨-, e⟩ := decode_cases w
  · omega
  · exact e

/-- Every operation has an assigned code. -/
theorem Instr.toNat_op_le (i : Instr) : i.op.toNat ≤ 0xA := by
  cases i <;> simp [Instr.op]

/-- What is known of an accepted word: its fields are those of the operation, and no must-be-zero bit is 1. -/
theorem decode_ok {w : CommandWord} {i : Instr} (h : decode w = .ok i) :
    i.op = opOf w ∧ i.arg = argOf w ∧ reservedBits w = 0 ∧ i.wellFormed = true := by
  obtain ⟨-, e⟩ | ⟨-, e⟩ := decode_cases w <;> rw [h] at e
  · cases e
  · cases e with
    | accepted hres hop harg hwf => exact ⟨hop, harg, hres, hwf⟩

/-! ### Which answer an assigned code gets -/

/-- `CFG_CTRL`'s timeout in a command word is that of its argument. -/
theorem extractLsb'_argOf_timeout (w : CommandWord) : (argOf w).extractLsb' 0 30 = w.extractLsb' 0 30 := by
  apply BitVec.eq_of_getLsbD_eq
  intro k hk
  simp [argOf, hk]

/-- `CFG_CTRL`'s argument holds its timeout in the low 30 bits (R116). -/
theorem extractLsb'_arg_cfgCtrl (sync : Bool) (timeoutMs : BitVec 30) :
    (Instr.cfgCtrl sync timeoutMs).arg.extractLsb' 0 30 = timeoutMs := by
  rw [Instr.arg, BitVec.extractLsb'_or, extractLsb'_place_of_disjoint _ (by decide),
    extractLsb'_place_self _ (by decide)]
  exact BitVec.zero_or

/-- A well-formed operation of code 8 has its timeout in range (R117). -/
theorem timeout_le_of_wellFormed {i : Instr} (hop : i.op = 0x8) (hwf : i.wellFormed = true) :
    (i.arg.extractLsb' 0 30).toNat ≤ maxTimeoutMs := by
  cases i
  case cfgCtrl sync ms =>
    rw [extractLsb'_arg_cfgCtrl]
    exact of_decide_eq_true hwf
  all_goals exact absurd hop (by simp [Instr.op])

section ArgAnswer
variable {op : BitVec 4} {mask arg : Word} {answer : Except DecodeError Instr}

theorem ArgAnswer.eq_reservedBitSet (e : ArgAnswer op mask arg answer) (hres : arg &&& mask ≠ 0) :
    answer = .error .reservedBitSet := by
  cases e with
  | reserved => rfl
  | outOfRange h0 | accepted h0 => exact absurd h0 hres

theorem ArgAnswer.eq_timeoutOutOfRange (e : ArgAnswer op mask arg answer) (hres : arg &&& mask = 0) (hop : op = 0x8)
    (ht : maxTimeoutMs < (arg.extractLsb' 0 30).toNat) : answer = .error .timeoutOutOfRange := by
  cases e with
  | reserved h0 => exact absurd hres h0
  | outOfRange => rfl
  | accepted _ hcode harg hwf =>
    have hle := timeout_le_of_wellFormed (hcode.trans hop) hwf
    rw [harg] at hle
    omega

theorem ArgAnswer.accepts (e : ArgAnswer op mask arg answer) (hres : arg &&& mask = 0)
    (ht : op = 0x8 → (arg.extractLsb' 0 30).toNat ≤ maxTimeoutMs) : ∃ i, answer = .ok i := by
  cases e with
  | reserved h0 => exact absurd hres h0
  | outOfRange _ hop hlt => exact absurd (ht hop) (Nat.not_le.mpr hlt)
  | accepted => exact ⟨_, rfl⟩

end ArgAnswer

end Sys2Proof
end

section
/-! PROOFS. The opcode table (R116): to match a row is to have its code and no must-be-zero bit that is 1. -/

namespace Sys2Proof

/-- Every row has an assigned code, asks for that code and for 0 in its must-be-zero bits, and for nothing else. -/
theorem opcodeTable_layout : ∀ r ∈ opcodeTable,
    (opOf r.value).toNat ≤ 0xA ∧ argOf r.value = 0 ∧ opOf r.mask = 0xF ∧ argOf r.mask = reservedMask (opOf r.value) := by
  decide

/-- Every assigned code has a row. -/
theorem exists_row_of_assigned : ∀ op : BitVec 4, op.toNat ≤ 0xA → ∃ r ∈ opcodeTable, opOf r.value = op := by
  decide

theorem opOf_and (w w' : CommandWord) : opOf (w &&& w') = opOf w &&& opOf w' := BitVec.extractLsb'_and

theorem argOf_and (w w' : CommandWord) : argOf (w &&& w') = argOf w &&& argOf w' := BitVec.extractLsb'_and

/-- A word belongs to a row exactly when it has the row's code and its must-be-zero bits are 0. -/
theorem matches_iff {r : OpcodeRow} (hr : r ∈ opcodeTable) (w : CommandWord) :
    r.matches w = true ↔ opOf w = opOf r.value ∧ reservedBits w = 0 := by
  obtain ⟨-, hval, hmask, hres⟩ := opcodeTable_layout r hr
  have hop : opOf (w &&& r.mask) = opOf w := by rw [opOf_and, hmask]; exact BitVec.and_allOnes
  have harg : argOf (w &&& r.mask) = argOf w &&& reservedMask (opOf r.value) := by rw [argOf_and, hres]
  rw [OpcodeRow.matches, beq_iff_eq, reservedBits]
  constructor
  · intro h
    have hcode : opOf w = opOf r.value := hop.symm.trans (congrArg opOf h)
    exact ⟨hcode, by rw [hcode, ← harg, h, hval]⟩
  · rintro ⟨hcode, h0⟩
    rw [hcode] at h0
    exact commandWord_ext (hop.trans hcode) (harg.trans (h0.trans hval.symm))

/-- A row has an operation's code exactly when it has its mnemonic. -/
theorem opOf_value_eq_op_iff {r : OpcodeRow} (hr : r ∈ opcodeTable) (i : Instr) :
    opOf r.value = i.op ↔ r.mnemonic = i.mnemonic := by
  cases i <;> simp only [Instr.op, Instr.mnemonic] <;> revert r <;> decide

/-- The row named `CFG_CTRL` is that of code 8. -/
theorem mnemonic_eq_cfgCtrl_iff {r : OpcodeRow} (hr : r ∈ opcodeTable) : r.mnemonic = "CFG_CTRL" ↔ opOf r.value = 0x8 :=
  (opOf_value_eq_op_iff hr (.cfgCtrl false 0)).symm

end Sys2Proof
end

section
/-! PROOFS. The command word (30_encoding.md). -/

namespace Sys2Proof.Machine

/-- Settles O1: the fields of the command word do not overlap, so each is read back. -/
theorem decodeOfEncodeIsTheOperation : Obligations.DecodeOfEncodeIsTheOperation := fun _ h => decode_encode h

/-- Settles O2: an accepted word has the operation's code and its argument. -/
theorem acceptedWordIsItsOperationsWord : Obligations.AcceptedWordIsItsOperationsWord := by
  intro w i h
  obtain ⟨hop, harg, -, hwf⟩ := decode_ok h
  exact ⟨commandWord_ext ((opOf_encode i).trans hop) ((argOf_encode i).trans harg), hwf⟩

/-- Settles O3: to match a row is to have an assigned code and no must-be-zero bit that is 1, which is what the decoder
tests. -/
theorem acceptedWordsAreTheTablesRows : Obligations.AcceptedWordsAreTheTablesRows := by
  intro w
  refine ⟨⟨fun ⟨i, h⟩ => ?_, fun ⟨r, hr, hmatch, ht⟩ => ?_⟩, fun i h r hr => ?_⟩
  · obtain ⟨hop, harg, hres, hwf⟩ := decode_ok h
    obtain ⟨r, hr, hcode⟩ := exists_row_of_assigned i.op i.toNat_op_le
    refine ⟨r, hr, (matches_iff hr w).mpr ⟨hop.symm.trans hcode.symm, hres⟩, fun hctrl => ?_⟩
    rw [← extractLsb'_argOf_timeout, ← harg]
    exact timeout_le_of_wellFormed (hcode.symm.trans ((mnemonic_eq_cfgCtrl_iff hr).mp hctrl)) hwf
  · obtain ⟨hcode, hres⟩ := (matches_iff hr w).mp hmatch
    refine (argAnswer_decode (hcode ▸ (opcodeTable_layout r hr).1)).accepts hres fun hop => ?_
    rw [extractLsb'_argOf_timeout]
    exact ht ((mnemonic_eq_cfgCtrl_iff hr).mpr (hcode.symm.trans hop))
  · obtain ⟨hop, -, hres, -⟩ := decode_ok h
    rw [matches_iff hr, ← opOf_value_eq_op_iff hr, hop]
    exact ⟨fun hm => hm.1.symm, fun hcode => ⟨hcode.symm, hres⟩⟩

/-- Settles O4: a word of an assigned code that matches no row has a must-be-zero bit that is 1, for that code has a row. -/
theorem illegalCommandWordsAreRefused : Obligations.IllegalCommandWordsAreRefused := by
  refine ⟨fun s p rest hport => ⟨fun hop => ?_, fun hop hrows => ?_, fun r hr hmatch hctrl ht => ?_⟩,
    fun id order => ⟨_, decode_encode (i := .cfgMsg id order) rfl⟩, fun v => ⟨_, decode_encode (i := .tick v) rfl⟩⟩
  · exact step_of_decode_error hport (decode_unassigned hop)
  · refine step_of_decode_error hport ((argAnswer_decode hop).eq_reservedBitSet fun hres => ?_)
    obtain ⟨r, hr, hcode⟩ := exists_row_of_assigned (opOf p.word) hop
    exact Bool.false_ne_true ((hrows r hr).symm.trans ((matches_iff hr p.word).mpr ⟨hcode.symm, hres⟩))
  · obtain ⟨hcode, hres⟩ := (matches_iff hr p.word).mp hmatch
    have hop : opOf p.word = 0x8 := hcode.trans ((mnemonic_eq_cfgCtrl_iff hr).mp hctrl)
    refine step_of_decode_error hport ((argAnswer_decode (by rw [hop]; decide)).eq_timeoutOutOfRange hres hop ?_)
    rwa [extractLsb'_argOf_timeout]

/-- Settles O5: each word runs through the decoder. -/
theorem wordsOfTheSpecDecode : Obligations.WordsOfTheSpecDecode := by
  unfold Obligations.WordsOfTheSpecDecode
  decide

end Sys2Proof.Machine
end

section
/-! PROOFS. The frame word (R100 to R106): its fields and its parity. -/

namespace Sys2Proof.Machine

/-! ### Fields -/

/-- The four fields of a payload are read back. -/
theorem Frame.unpack_payload (f : Frame) : Frame.unpack f.payload = f := by
  simp [Frame.unpack, Frame.payload, BitVec.extractLsb'_or, extractLsb'_place_self, extractLsb'_place_of_disjoint]

/-- A field below bit 31 is the payload's. -/
theorem Frame.extractLsb'_pack (f : Frame) {start len : Nat} (h : start + len ≤ 31) :
    f.pack.extractLsb' start len = f.payload.extractLsb' start len := by
  rw [Frame.pack, BitVec.extractLsb'_or, extractLsb'_place_of_disjoint _ (.inl h)]
  exact BitVec.zero_or

/-- The parity bit and the spare bits are dropped (R106). -/
theorem Frame.unpack_pack (f : Frame) : Frame.unpack f.pack = f := by
  have hfields : Frame.unpack f.pack = Frame.unpack f.payload := by simp [Frame.unpack, Frame.extractLsb'_pack]
  exact hfields.trans f.unpack_payload

/-- The spare bits 27:24 of a packed frame are 0 (R105). -/
theorem Frame.spare_pack (f : Frame) : f.pack.extractLsb' 24 4 = 0 := by
  rw [Frame.extractLsb'_pack f (by decide)]
  simp [Frame.payload, BitVec.extractLsb'_or, extractLsb'_place_of_disjoint]

/-! ### Parity -/

/-- Bit 31 of a payload is 0: the place of the parity bit. -/
theorem Frame.getLsbD_payload_top (f : Frame) : f.payload.getLsbD 31 = false := by
  simp [Frame.payload]

/-- Bit 31 of a packed frame is the parity bit of its payload. -/
theorem Frame.getLsbD_pack_top (f : Frame) : f.pack.getLsbD 31 = parityBit f.payload := by
  rw [Frame.pack, BitVec.getLsbD_or, Frame.getLsbD_payload_top]
  simp

/-- The bits of a word below bit 31. -/
theorem getLsbD_and_low (w : Word) (k : Nat) : (w &&& 0x7FFFFFFF).getLsbD k = (decide (k < 31) && w.getLsbD k) := by
  have hlow : place 32 0 (w.extractLsb' 0 31) = w &&& 0x7FFFFFFF := place_extractLsb' w 0 31
  rw [← hlow]
  by_cases hk : k < 32 <;> simp [hk]
  omega

/-- A packed frame without its parity bit is its payload. -/
theorem Frame.pack_and_low (f : Frame) : f.pack &&& 0x7FFFFFFF = f.payload := by
  apply BitVec.eq_of_getLsbD_eq
  intro k hk
  rw [getLsbD_and_low]
  by_cases hlow : k < 31
  · simp [Frame.pack, hlow, show ¬ 31 ≤ k by omega]
  · rw [show k = 31 by omega, f.getLsbD_payload_top]
    rfl

/-- The ones of a word are those below bit 31, and bit 31. -/
theorem popcount_eq_low_add_top (w : Word) : popcount w = popcount (w &&& 0x7FFFFFFF) + (w.getLsbD 31).toNat := by
  have hlow : (List.range 31).countP (fun k => (w &&& 0x7FFFFFFF).getLsbD k) =
      (List.range 31).countP fun k => w.getLsbD k :=
    List.countP_congr fun k hk => by rw [getLsbD_and_low]; simp [List.mem_range.mp hk]
  have htop (v : Word) :
      popcount v = (List.range 31).countP (fun k => v.getLsbD k) + (v.getLsbD 31).toNat := by
    rw [popcount, List.range_succ, List.countP_append, List.countP_singleton]
    cases v.getLsbD 31 <;> rfl
  rw [htop w, htop (w &&& 0x7FFFFFFF), hlow, getLsbD_and_low]
  rfl

/-- The parity bit makes the ones of a packed frame odd in number (R101). -/
theorem Frame.parityOK_pack (f : Frame) : parityOK f.pack = true := by
  have hones : popcount f.pack = popcount f.payload + (parityBit f.payload).toNat := by
    rw [popcount_eq_low_add_top, Frame.pack_and_low, Frame.getLsbD_pack_top]
  rw [parityOK, hones, parityBit]
  rcases Nat.mod_two_eq_zero_or_one (popcount f.payload) with h | h
  · simp [h, Nat.add_mod]
  · simp [h]

/-- Settles O13: packing adds to the payload only a bit that unpacking drops, and that bit mends the parity. -/
theorem unpackOfPackIsTheFrame : Obligations.UnpackOfPackIsTheFrame := fun f => ⟨f.unpack_pack, f.parityOK_pack⟩

/-- A `SEND` whose `TimerStop` obeys leaves the packed frame in the shift register (R145). -/
theorem startSending_data {e : Env} {x : Transceiver} (f : Frame) (h : x.timerRun = false ∨ e.disarm = .ok) :
    (startSending e f x).data = f.pack := by
  obtain ⟨hr, hd, -⟩ | ⟨-, -, e⟩ | ⟨-, -, e⟩ := startSending_cases e f x
  · simp [hr, hd] at h
  · rw [e]
  · rw [e]

/-- Settles O12: the fields do not overlap, and the bits below bit 31 are the payload's. -/
theorem packedFrameLayout : Obligations.PackedFrameLayout := by
  intro f
  refine ⟨fun s t hd h => ?_, ?_, f.spare_pack, ?_, ?_, ?_, ?_⟩
  · obtain ⟨-, rfl⟩ := State.send_next h
    exact startSending_data f hd
  · exact congrArg Frame.ty f.unpack_pack
  · exact congrArg Frame.id f.unpack_pack
  · exact congrArg Frame.hb f.unpack_pack
  · exact congrArg Frame.lb f.unpack_pack
  · rw [f.pack_and_low, f.getLsbD_pack_top]
    rfl

/-! ### The frame that `GET_MESSAGE` returns -/

/-- `GET_MESSAGE` answers `ok = 1` in `RECEIVED` alone, with the fields of `data` (R146). -/
theorem execGetMessage_message {s t : State} {w : Word} (h : execGetMessage s = .next t)
    (hw : t.out.response = .message true w) : s.tx.mode = .received ∧ w = messageWord s.tx.data := by
  cases h
  cases hm : s.tx.mode
  case received => simpa [hm] using hw.symm
  all_goals simp [hm] at hw

/-- The response word carries the fields of `data` (R118). -/
theorem unpack_messageWord (data : Word) : Frame.unpack (messageWord data) = Frame.unpack data :=
  (Frame.unpack data).unpack_payload

/-- Settles O36: the answer `ok = 1` means `RECEIVED`, and there the invariant has a whole frame in `data`. -/
theorem onlyGoodFramesAreReturned : Obligations.OnlyGoodFramesAreReturned := by
  intro s t w hinv h hw
  obtain ⟨hm, rfl⟩ := execGetMessage_message h hw
  obtain ⟨hpos, hpar⟩ := hinv.tx.received_frame hm
  exact ⟨hpos, hpar, unpack_messageWord _⟩

end Sys2Proof.Machine
end

section
/-! PROOFS. The mode each operation leaves (R149): one lemma per shared operation on the transceiver record, then the
operations. -/

namespace Sys2Proof.Machine

/-! ### The shared operations -/

theorem mode_finishIn_mem (m : Mode) (r : TimerResult) (x : Transceiver) :
    (finishIn m r x).mode ∈ [m, .errorTimer] := by
  obtain ⟨-, e⟩ | ⟨-, -, e⟩ | ⟨-, -, e⟩ := finishIn_cases m r x <;> simp [e]

theorem mode_raiseProtocolError_mem (t : ProtocolError) (r : TimerResult) (x : Transceiver) :
    (raiseProtocolError t r x).mode ∈ [.errorProtocol, .errorTimer] :=
  mode_finishIn_mem .errorProtocol r { x with err := t }

theorem mode_startListening_mem (e : Env) (ms : Word) (x : Transceiver) :
    (startListening e ms x).mode ∈ [.listen, .errorTimer] := by
  obtain ⟨-, -, e⟩ | ⟨-, -, e⟩ | ⟨-, -, e⟩ := startListening_cases e ms x <;> simp [e]

theorem mode_startSending_mem (e : Env) (f : Frame) (x : Transceiver) :
    (startSending e f x).mode ∈ [.write, .errorTimer] := by
  obtain ⟨-, -, e⟩ | ⟨-, -, e⟩ | ⟨-, -, e⟩ := startSending_cases e f x <;> simp [e]

@[simp] theorem stopTransceiver_mode (r : TimerResult) (x : Transceiver) : (stopTransceiver r x).mode = .idle := rfl

/-! ### The ticks -/

/-- A listening tick goes on, starts the read phase or times out (R171). -/
theorem mode_tickListen_mem (v : Bool) (r : TimerResult) {x : Transceiver} (hm : x.mode = .listen) :
    (tickListen v r x).mode ∈ [.listen, .read, .errorTimeout, .errorTimer] := by
  obtain ⟨-, e⟩ | ⟨-, -, e⟩ | ⟨-, -, e⟩ := tickListen_cases v r x <;> rw [e]
  · exact List.mem_cons_of_mem _ (List.mem_cons_of_mem _ (mode_finishIn_mem _ r x))
  · simp
  · simp [hm]

/-- The stop bit ends the read phase (R176). -/
theorem mode_stopBit_mem (last : Bool) (r : TimerResult) (x : Transceiver) :
    (stopBit last r x).mode ∈ [.received, .errorProtocol, .errorTimer] := by
  obtain ⟨-, e⟩ | ⟨-, -, e⟩ | ⟨-, -, e⟩ := stopBit_cases last r x <;> rw [e]
  · exact List.mem_cons_of_mem _ (mode_raiseProtocolError_mem _ r x)
  · exact List.mem_cons_of_mem _ (mode_raiseProtocolError_mem _ r x)
  · exact List.cons_subset_cons _ (List.subset_cons_self _ _) (mode_finishIn_mem .received r x)

/-- A reading tick goes on, raises a protocol error or reads the stop bit (R172). -/
theorem mode_tickRead_mem (v : Bool) (r : TimerResult) {x : Transceiver} (hm : x.mode = .read) :
    (tickRead v r x).mode ∈ [.read, .received, .errorProtocol, .errorTimer] := by
  have hraise (t : ProtocolError) : (raiseProtocolError t r x).mode ∈ [.read, .received, .errorProtocol, .errorTimer] :=
    List.mem_cons_of_mem _ (List.mem_cons_of_mem _ (mode_raiseProtocolError_mem t r x))
  have hgo {y : Transceiver} (hy : y.mode = .read) :
      (appendSample v y).mode ∈ [.read, .received, .errorProtocol, .errorTimer] := by
    simp [appendSample, hy]
  obtain ⟨-, -, e⟩ | ⟨-, -, e⟩ | ⟨-, -, -, e⟩ | ⟨-, -, -, e⟩ | ⟨-, -, -, e⟩ | ⟨-, -, -, e⟩ := tickRead_cases v r x <;>
    rw [e]
  · exact hraise _
  · exact hgo hm
  · exact hraise _
  · exact List.mem_cons_of_mem _ (mode_stopBit_mem _ r x)
  · exact hgo hm
  · exact hgo hm

/-- A writing tick goes on or completes the frame (R200, R203). -/
theorem mode_tickWrite_mem (b : Bool) (r : TimerResult) {x : Transceiver} (hm : x.mode = .write) :
    (tickWrite b r x).mode ∈ [.write, .sent, .errorTimer] := by
  obtain ⟨-, e⟩ | ⟨-, -, e⟩ | ⟨-, -, e⟩ := tickWrite_cases b r x <;> rw [e]
  · simp [hm]
  · exact List.mem_cons_of_mem _ (mode_finishIn_mem _ r _)
  · simp [hm]

/-! ### The operations -/

/-- A `TICK` may leave any mode as it is (R170; log 8). -/
theorem mem_allowedModes_tick_self (v : Bool) (m : Mode) : m ∈ allowedModes (.tick v) m := by
  cases m <;> simp [allowedModes]

/-- A `LOOP` may leave any mode as it is (R225, R231, R232). -/
theorem mem_allowedModes_loop_self (now : Millis) (m : Mode) : m ∈ allowedModes (.loop now) m := by
  cases m <;> simp [allowedModes]

/-- A `LOOP` on an active mode may abort the conversation (R232). -/
theorem idle_mem_allowedModes_loop_of_active (now : Millis) {m : Mode} (hm : m.active = true) :
    .idle ∈ allowedModes (.loop now) m := by
  cases m <;> simp [allowedModes, Mode.active] at hm ⊢

theorem execTick_mode_mem {v : Bool} {s t : State} (h : execTick v s = .next t) :
    t.tx.mode ∈ allowedModes (.tick v) s.tx.mode := by
  obtain ⟨-, rfl⟩ | ⟨-, hm, rfl⟩ | ⟨-, hm, rfl⟩ | ⟨-, hm, b, -, rfl⟩ := execTick_next h
  · exact mem_allowedModes_tick_self v s.tx.mode
  · rw [hm]; exact mode_tickListen_mem v _ hm
  · rw [hm]; exact mode_tickRead_mem v _ hm
  · rw [hm]; exact mode_tickWrite_mem b _ hm

/-- `LOOP` listens from `SENT` and sends from `IDLE`; from every other mode it can only stop. -/
theorem execLoop_mode_mem {now : Millis} {s t : State} (h : execLoop now s = .next t) :
    t.tx.mode ∈ allowedModes (.loop now) s.tx.mode := by
  obtain ⟨-, rfl | ⟨-, ⟨hm, hl⟩ | ⟨hm, rfl⟩ | ⟨hm, rfl⟩ | ⟨hm, rfl⟩ | ⟨hm, rfl⟩ | ⟨hm, -, rfl⟩ | ⟨hm, -, _, -, hc⟩⟩⟩ :=
    execLoop_next h
  case inr.inl =>
    obtain ⟨-, rfl⟩ := State.listen_next hl
    rw [hm]
    exact List.mem_cons_of_mem _ (mode_startListening_mem _ _ _)
  case inr.inr.inr.inr.inr.inr.inr =>
    obtain ⟨-, htx, -⟩ := State.startConversation_next hc
    rw [hm, htx]
    exact List.mem_cons_of_mem _ (mode_startSending_mem _ _ _)
  case inl => exact mem_allowedModes_loop_self now s.tx.mode
  case inr.inr.inr.inr.inr.inr.inl => exact idle_mem_allowedModes_loop_of_active now hm
  all_goals rw [hm]; simp [allowedModes]

/-- Settles O56: the mode before decides which of an operation's cases can happen, and each of those leaves a mode
of the table. -/
theorem modesFollowTheTransitionTable : Obligations.ModesFollowTheTransitionTable := by
  intro i s t h
  cases i with
  | init =>
    obtain ⟨-, htx, -⟩ := execInit_next h
    simp [htx, allowedModes]
  | listen =>
    obtain ⟨-, rfl⟩ := State.listen_next h
    exact mode_startListening_mem _ _ _
  | send ty id hb lb =>
    obtain ⟨-, rfl⟩ := State.send_next h
    exact mode_startSending_mem _ _ _
  | stop =>
    cases h
    exact List.mem_singleton_self _
  | tick v => exact execTick_mode_mem h
  | loop now => exact execLoop_mode_mem h
  | getMessage | getProtocolError =>
    cases h
    exact List.mem_singleton_self _
  | cfgMsg id order =>
    obtain ⟨-, rfl⟩ := execCfgMsg_next h
    exact List.mem_singleton_self _
  | cfgCtrl sync ms =>
    obtain ⟨-, -, rfl⟩ := execCfgCtrl_next h
    exact List.mem_singleton_self _
  | setup =>
    obtain ⟨-, -, htx, -⟩ := execSetup_next h
    simp [htx, allowedModes]

end Sys2Proof.Machine
end

section
/-! PROOFS. The transceiver commands (40_transceiver_commands.md). -/

namespace Sys2Proof.Machine

/-! ### The timer primitives -/

/-- No draw is made for a timer that is stopped (R140). -/
theorem timerStop_of_stopped (r : TimerResult) {x : Transceiver} (hr : x.timerRun = false) :
    timerStop r x = (x, .ok) := by
  simp [timerStop, hr]

/-- Settles O14: each clause is one branch of the two primitives. -/
theorem timerPrimitiveOutcomes : Obligations.TimerPrimitiveOutcomes :=
  fun _ r _ => ⟨timerStop_of_stopped r, fun hr => if_pos hr, fun hr => if_pos hr, rfl, rfl⟩

/-- The three ways a command that stops the timer and starts it again can end, told apart by the two draws (R140,
R141). -/
theorem State.restart_outcomes {s : State} {x ok armFailed disarmFailed : Transceiver}
    (h : (s.tx.timerRun = true ∧ s.env.disarm = .fail ∧ x = disarmFailed) ∨
      (s.DisarmObeys ∧ s.env.arm = .fail ∧ x = armFailed) ∨ (s.DisarmObeys ∧ s.env.arm = .ok ∧ x = ok)) :
    (s.DisarmObeys → s.env.arm = .ok → x = ok) ∧ (s.DisarmObeys → s.env.arm = .fail → x = armFailed) ∧
      (¬ s.DisarmObeys → x = disarmFailed) := by
  obtain ⟨hr, hd, rfl⟩ | ⟨hobeys, harm, rfl⟩ | ⟨hobeys, harm, rfl⟩ := h
  · simp [hr, hd]
  · simp [harm, hobeys]
  · simp [harm, hobeys]

/-! ### The commands -/

/-- Settles O15: `INIT` is one test of `inited`. -/
theorem initResult : Obligations.InitResult :=
  fun _ => ⟨fun hi => if_neg (by simp [hi]), fun hi => if_pos hi⟩

theorem Transceiver.available_of_inited {x : Transceiver} (hi : x.inited = true) (hf : x.initFailed = false) :
    x.available = true := by
  simp [Transceiver.available, hi, hf]

/-- Settles O16: the two draws decide which of `LISTEN`'s outcomes it is. -/
theorem listenResult : Obligations.ListenResult := by
  intro s hi hf
  rw [execListen_of_available (Transceiver.available_of_inited hi hf)]
  obtain ⟨hok, harm, hdisarm⟩ := State.restart_outcomes (startListening_cases s.env s.sched.cfgTimeoutMs s.tx)
  refine ⟨fun hd ha => ?_, fun hd ha => ?_, fun hd => ?_⟩
  · rw [hok hd ha]; rfl
  · rw [harm hd ha]; rfl
  · rw [hdisarm hd]; rfl

/-- Settles O17: the two draws decide which of `SEND`'s outcomes it is. -/
theorem sendResult : Obligations.SendResult := by
  intro s ty id hb lb hi hf
  rw [execSend_of_available ⟨ty, id, hb, lb⟩ (Transceiver.available_of_inited hi hf)]
  obtain ⟨hok, harm, hdisarm⟩ := State.restart_outcomes (startSending_cases s.env ⟨ty, id, hb, lb⟩ s.tx)
  refine ⟨fun hd ha => ?_, fun hd ha => ?_, fun hd => ?_⟩
  · rw [hok hd ha]; rfl
  · rw [harm hd ha]; rfl
  · rw [hdisarm hd]; rfl

/-- The response word of `GET_MESSAGE` is `data` without its parity bit and its spare bits: each field is placed where
it was taken from (R118). -/
theorem messageWord_eq_and (data : Word) : messageWord data = data &&& 0x70FFFFFF := by
  simp only [messageWord, place_extractLsb', ← BitVec.and_or_distrib_left]
  rfl

/-- Settles O19: `GET_MESSAGE` is one test of the mode. -/
theorem getMessageResult : Obligations.GetMessageResult := by
  refine fun s => ⟨fun hm => ?_, fun hm => ?_⟩
  · simp only [exec, execGetMessage, hm, messageWord_eq_and]
    rfl
  · cases hmode : s.tx.mode
    case received => exact absurd hmode hm
    all_goals simp only [exec, execGetMessage, hmode]; rfl

/-- The four fields of the error word do not overlap, so each is read back (R116). -/
theorem errorWord_fields (x : Transceiver) :
    (errorWord x).extractLsb' 23 3 = x.err.code ∧ (errorWord x).extractLsb' 17 6 = x.bitPos ∧
      (errorWord x).getLsbD 16 = x.clock ∧ (errorWord x).extractLsb' 0 16 = x.capture := by
  simp [errorWord, BitVec.extractLsb'_or, extractLsb'_place_self, extractLsb'_place_of_disjoint]

/-- Settles O20: `GET_PROTOCOL_ERROR` is one test of the mode. -/
theorem getProtocolErrorResult : Obligations.GetProtocolErrorResult := by
  refine fun s => ⟨fun hm => ⟨errorWord s.tx, ?_, errorWord_fields s.tx⟩, fun hm => ?_⟩
  · simp only [exec, execGetProtocolError, hm]
    rfl
  · cases hmode : s.tx.mode
    case errorProtocol => exact absurd hmode hm
    all_goals simp only [exec, execGetProtocolError, hmode]; rfl

/-- The record `STOP` leaves (R148). -/
theorem State.stopTransceiver_eq_stoppedTx (s : State) : stopTransceiver s.env.disarm s.tx = s.stoppedTx := by
  obtain ⟨hr, e⟩ | ⟨hr, hd, e⟩ | ⟨hr, hd, e⟩ := stopTransceiver_cases s.env.disarm s.tx <;>
    rw [e]
  · simp [State.stoppedTx, hr]
  · simp [State.stoppedTx, hr, hd]
  · simp [State.stoppedTx, hr, hd]

theorem execStop_eq (s : State) : exec .stop s = .next { s with tx := s.stoppedTx, out := .silent } := by
  rw [← s.stopTransceiver_eq_stoppedTx]
  rfl

/-- Settles O21: `STOP` leaves `stoppedTx`, whose branches are the three clauses. -/
theorem stopResult : Obligations.StopResult := by
  intro s
  rw [execStop_eq]
  refine ⟨fun hr => ?_, fun hr hd => ?_, fun hr hd => ?_⟩
  · simp [State.stoppedTx, hr]
  · simp [State.stoppedTx, hr, hd]
  · simp [State.stoppedTx, hr, hd]

/-! ### Before a successful `INIT` -/

/-- A transceiver is unavailable exactly before a successful `INIT` (R142 (b)). -/
theorem Transceiver.available_eq_false_iff (x : Transceiver) :
    x.available = false ↔ x.inited = false ∨ x.initFailed = true := by
  cases hi : x.inited <;> simp [Transceiver.available, hi]

section unavailable
variable {s : State} (ha : s.tx.available = false)
include ha

theorem State.listen_of_unavailable : s.listen = .refused .transceiverUnavailable := by
  simp [State.listen, ha]

theorem State.send_of_unavailable (f : Frame) : s.send f = .refused .transceiverUnavailable := by
  simp [State.send, ha]

theorem State.startConversation_of_unavailable (now : Millis) (id0 : Ident) :
    s.startConversation now id0 = .refused .transceiverUnavailable := by
  simp [State.startConversation, State.send_of_unavailable, ha]

end unavailable

/-- `LOOP` on `SENT` of a component that is set up and not failed (R226). -/
theorem execLoop_of_sent {s : State} (now : Millis) (hd : s.sched.setupDone = true) (hf : s.sched.failed = false)
    (hm : s.tx.mode = .sent) : execLoop now s = s.beginStep.listen := by
  simp [execLoop, hd, hf, hm]

/-- A conversation that is due starts with the identifier under the cursor (R231). -/
theorem State.loopIdle_of_current_eq_some {now : Millis} {s : State} {id0 : Ident}
    (hg : gapPending now s.sched = false) (hc : s.sched.current = some id0) :
    s.loopIdle now =
      (s.emit (if budgetExceeded s.sched then [.budgetWarning (lastDuration s.sched)] else [])).startConversation
        now id0 := by
  have hn : s.sched.rotLen ≠ 0 := fun h0 => by simp [Scheduler.current, h0] at hc
  unfold State.loopIdle
  rw [hg, if_neg Bool.false_ne_true, if_neg hn, hc]

/-- Settles O18: the two commands test `available` first, and a `LOOP` that is due for one of them answers what
it does. -/
theorem commandsBeforeInit : Obligations.CommandsBeforeInit := by
  intro s h
  have ha : s.tx.available = false := s.tx.available_eq_false_iff.mpr h
  refine ⟨State.listen_of_unavailable (s := s.beginStep) ha,
    fun _ _ _ _ => State.send_of_unavailable (s := s.beginStep) ha _,
    ⟨_, rfl⟩, ⟨_, rfl⟩, ⟨_, rfl⟩, fun now hd hf => ⟨fun hm => ?_, fun hm hgap hcur => ?_⟩⟩
  · exact (execLoop_of_sent now hd hf hm).trans (State.listen_of_unavailable (s := s.beginStep) ha)
  · obtain ⟨id0, hc⟩ := Option.ne_none_iff_exists'.mp
      (mt (Scheduler.current_eq_none_iff s.sched).mp (Nat.not_le.mpr hcur))
    have hloop := State.loopIdle_of_current_eq_some (s := s.beginStep) ((gapPending_eq_false_iff _ _).mpr hgap) hc
    exact (execLoop_of_idle now hd hf hm).trans
      (hloop.trans (State.startConversation_of_unavailable (s := s.beginStep.emit _) ha now id0))

end Sys2Proof.Machine
end

section
/-! PROOFS. The tick of the decoder (R170 to R180): one equation of `TICK` per mode and one of `TickRead` per case of
R174, then the statements about a single tick. -/

namespace Sys2Proof.Machine

/-! ### `TICK` in each mode -/

/-- R170's last line: a mode that is not active has no tick of its own. -/
theorem execTick_of_not_active {s : State} (v : Bool) (hm : s.tx.mode.active = false) :
    execTick v s = .next s.beginStep := by
  cases h : s.tx.mode <;> simp [Mode.active, h] at hm <;> simp [execTick, h]

theorem execTick_of_listen {s : State} (v : Bool) (hr : s.tx.timerRun = true) (hm : s.tx.mode = .listen) :
    execTick v s = .next (s.beginStep.withTx (tickListen v s.env.disarm s.tx)) := by
  simp [execTick, hr, hm]

theorem execTick_of_read {s : State} (v : Bool) (hr : s.tx.timerRun = true) (hm : s.tx.mode = .read) :
    execTick v s = .next (s.beginStep.withTx (tickRead v s.env.disarm s.tx)) := by
  simp [execTick, hr, hm]

/-- An inactive mode is one in which nothing is listened for, read or written (R13). -/
theorem Mode.active_eq_false_iff (m : Mode) : m.active = false ↔ m ≠ .listen ∧ m ≠ .read ∧ m ≠ .write := by
  cases m <;> simp [Mode.active]

/-- Settles O22: the three modes it excludes are the active ones. -/
theorem tickOutsideTheActiveModes : Obligations.TickOutsideTheActiveModes :=
  fun s v _ hl hr hw => execTick_of_not_active v (s.tx.mode.active_eq_false_iff.mpr ⟨hl, hr, hw⟩)

/-! ### Words as numbers -/

/-- Shifting a bit in doubles a word and adds the bit, cut to 32 bits (R175). -/
theorem shiftIn_data_eq (d : Word) (b : Bool) : shiftIn d b = BitVec.ofNat 32 (2 * d.toNat + b.toNat) :=
  BitVec.eq_of_toNat_eq (by rw [toNat_shiftIn, BitVec.toNat_ofNat])

/-- The same on `capture` (R179). -/
theorem shiftIn_capture_eq (c : BitVec 16) (b : Bool) : shiftIn c b = BitVec.ofNat 16 (2 * c.toNat + b.toNat) :=
  BitVec.eq_of_toNat_eq (by rw [toNat_shiftIn, BitVec.toNat_ofNat])

/-- One count down of a counter that is not 0. -/
theorem countdown_eq {n : Word} (h : n ≠ 0) : n - 1 = BitVec.ofNat 32 (n.toNat - 1) := by
  have hpos : n.toNat ≠ 0 := fun h0 => h (BitVec.eq_of_toNat_eq (by simpa using h0))
  bv_omega

theorem isFull_eq (c : BitVec 16) : isFull c = decide (0xF < c.toNat) := rfl

theorem isStalled_eq (c : BitVec 16) : isStalled c = decide (0xFF < c.toNat) := rfl

/-- R174's cases B and C together: the clock phase and the edge age differ. -/
theorem clock_ne_isFull_iff (clock : Bool) (c : BitVec 16) :
    clock ≠ isFull c ↔ clock = true ∧ c.toNat ≤ 0xF ∨ clock = false ∧ 0xF < c.toNat := by
  cases clock <;> simp [isFull_eq]

/-! ### Ending in a mode -/

/-- Where the timer runs, an operation ends as `endedIn` says (R140, R292). -/
theorem State.finishIn_eq_endedIn (s : State) (m : Mode) {x : Transceiver} (hr : x.timerRun = true) :
    finishIn m s.env.disarm x = s.endedIn m x := by
  cases hd : s.env.disarm <;> simp [finishIn, timerStop, State.endedIn, hr, hd]

theorem State.raiseProtocolError_eq_endedIn (s : State) (t : ProtocolError) {x : Transceiver}
    (hr : x.timerRun = true) :
    raiseProtocolError t s.env.disarm x = s.endedIn .errorProtocol { x with err := t } :=
  s.finishIn_eq_endedIn .errorProtocol (x := { x with err := t }) hr

/-- Settles O24: the counter and then the sample decide which case of R171 it is. -/
theorem tickListening : Obligations.TickListening := by
  intro s v hr hm
  simp only [exec, execTick_of_listen v hr hm]
  obtain ⟨h0, e⟩ | ⟨h0, hv, e⟩ | ⟨h0, hv, e⟩ := tickListen_cases v s.env.disarm s.tx <;> rw [e]
  · refine ⟨fun _ => ?_, absurd h0, absurd h0⟩
    rw [s.finishIn_eq_endedIn _ hr]
    rfl
  · refine ⟨(absurd · h0), fun _ _ => ?_, by simp [hv]⟩
    rw [countdown_eq h0]
    rfl
  · refine ⟨(absurd · h0), by simp [hv], fun _ _ => ?_⟩
    rw [countdown_eq h0]
    rfl

/-! ### `TickRead` case by case -/

section tickRead
variable {v : Bool} {x : Transceiver} (r : TimerResult)

/-- Case B or C: a data point (R174). -/
theorem tickRead_of_dataPoint (hv : v ≠ lastSample x.capture) (hc : x.clock ≠ isFull x.capture) :
    tickRead v r x = dataPoint v (lastSample x.capture) r x := by
  cases h : x.clock <;> cases hf : isFull x.capture <;> simp [h, hf] at hc <;> simp [tickRead, edgeCase, hv, h, hf]

/-- A data point before the stop bit shifts the level before the edge in (R175). -/
theorem tickRead_of_frameBit (hv : v ≠ lastSample x.capture) (hc : x.clock ≠ isFull x.capture) (hp : x.bitPos ≠ 33) :
    tickRead v r x = appendSample v
      { x with data := shiftIn x.data (lastSample x.capture), bitPos := x.bitPos + 1, clock := false, capture := 1 } :=
  (tickRead_of_dataPoint r hv hc).trans (if_neg hp)

/-- The data point at `bit_pos` 33 is the stop bit (R176). -/
theorem tickRead_of_stopBit (hv : v ≠ lastSample x.capture) (hc : x.clock ≠ isFull x.capture) (hp : x.bitPos = 33) :
    tickRead v r x = stopBit (lastSample x.capture) r x :=
  (tickRead_of_dataPoint r hv hc).trans (if_pos hp)

/-- A stop bit whose first half is low (R176). -/
theorem stopBit_of_low {last : Bool} (hl : last = false) : stopBit last r x = raiseProtocolError .invalidStopBit r x :=
  if_pos hl

/-- A stop bit after an even number of ones (R177, R278). -/
theorem stopBit_of_even {last : Bool} (hl : last = true) (heven : popcount x.data % 2 = 0) :
    stopBit last r x = raiseProtocolError .parityError r x := by
  simp [stopBit, parityOK, hl, heven]

/-- A stop bit after an odd number of ones (R177). -/
theorem stopBit_of_odd {last : Bool} (hl : last = true) (hodd : popcount x.data % 2 = 1) :
    stopBit last r x = finishIn .received r x := by
  simp [stopBit, parityOK, hl, hodd]

/-- Case D: the boundary edge between two equal bits (R174). -/
theorem tickRead_of_boundary (hv : v ≠ lastSample x.capture) (hc : x.clock = false) (hf : isFull x.capture = false) :
    tickRead v r x = appendSample v { x with clock := true, capture := 1 } := by
  simp [tickRead, edgeCase, hv, hc, hf]

/-- Case A: the mid-bit transition is missing (R174, R276). -/
theorem tickRead_of_missing (hv : v ≠ lastSample x.capture) (hc : x.clock = true) (hf : isFull x.capture = true) :
    tickRead v r x = raiseProtocolError .noTransition r x := by
  simp [tickRead, edgeCase, hv, hc, hf]

/-- No edge (R179). -/
theorem tickRead_of_same (hv : v = lastSample x.capture) (hs : isStalled x.capture = false) :
    tickRead v r x = appendSample v x := by
  simp [tickRead, hv, hs]

/-- No edge for too long (R178). -/
theorem tickRead_of_stalled (hv : v = lastSample x.capture) (hs : isStalled x.capture = true) :
    tickRead v r x = raiseProtocolError .noChangeTooLong r x := by
  simp [tickRead, hv, hs]

end tickRead

/-- Settles O25: away from the stop bit a data point shifts its bit in. -/
theorem tickReadsADataPoint : Obligations.TickReadsADataPoint := by
  intro s v hr hm hv hc hpos
  simp only [exec, execTick_of_read v hr hm]
  rw [tickRead_of_frameBit _ hv ((clock_ne_isFull_iff _ _).mpr hc) hpos, appendSample, shiftIn_data_eq,
    shiftIn_capture_eq]
  rfl

/-- Settles O26: an edge that is no data point is case D or case A of R174. -/
theorem tickReadsAnotherEdge : Obligations.TickReadsAnotherEdge := by
  intro s v hr hm hv
  simp only [exec, execTick_of_read v hr hm]
  refine ⟨fun hc hle => ?_, fun hc hlt => ?_⟩
  · rw [tickRead_of_boundary _ hv hc (decide_eq_false (Nat.not_lt.mpr hle)), appendSample, shiftIn_capture_eq]
    rfl
  · rw [tickRead_of_missing _ hv hc (decide_eq_true hlt), s.raiseProtocolError_eq_endedIn _ hr]
    rfl

/-- Settles O27: at `bit_pos` 33 a data point is the stop bit, with three ways to end. -/
theorem tickReadsTheStopBit : Obligations.TickReadsTheStopBit := by
  intro s v hr hm hv hc hpos
  simp only [exec, execTick_of_read v hr hm]
  rw [tickRead_of_stopBit _ hv ((clock_ne_isFull_iff _ _).mpr hc) hpos]
  refine ⟨fun (hl : lastSample s.tx.capture = false) => ?_, fun (hl : lastSample s.tx.capture = true) heven => ?_,
    fun (hl : lastSample s.tx.capture = true) hodd => ?_⟩
  · rw [stopBit_of_low _ hl, s.raiseProtocolError_eq_endedIn _ hr]
    rfl
  · rw [stopBit_of_even _ hl heven, s.raiseProtocolError_eq_endedIn _ hr]
    rfl
  · rw [stopBit_of_odd _ hl hodd, s.finishIn_eq_endedIn _ hr]
    rfl

/-- Settles O28: without an edge the stall decides. -/
theorem tickWithoutAnEdge : Obligations.TickWithoutAnEdge := by
  intro s v hr hm hv
  simp only [exec, execTick_of_read v hr hm]
  refine ⟨fun hle => ?_, fun hlt => ?_⟩
  · rw [tickRead_of_same _ hv (decide_eq_false (Nat.not_lt.mpr hle)), appendSample, shiftIn_capture_eq]
    rfl
  · rw [tickRead_of_stalled _ hv (decide_eq_true hlt), s.raiseProtocolError_eq_endedIn _ hr]
    rfl

end Sys2Proof.Machine
end

section
/-! PROOFS. Runs of ticks of a block that does not send: each tick acts on the transceiver record alone (`receiveTick`),
so a run is a fold of it over the ticks, or over their samples where the timer obeys. -/

namespace Sys2Proof.Machine

/-! ### One tick -/

/-- What a tick does to the transceiver record in every mode but `WRITE` (`exec_tick_eq`). -/
def receiveTick (v : Bool) (r : TimerResult) (x : Transceiver) : Transceiver :=
  match x.timerRun, x.mode with
  | true, .listen => tickListen v r x
  | true, .read => tickRead v r x
  | _, _ => x

section receiveTick
variable (v : Bool) (r : TimerResult) {x : Transceiver}

theorem receiveTick_of_listen (hr : x.timerRun = true) (hm : x.mode = .listen) :
    receiveTick v r x = tickListen v r x := by
  simp [receiveTick, hr, hm]

theorem receiveTick_of_read (hr : x.timerRun = true) (hm : x.mode = .read) : receiveTick v r x = tickRead v r x := by
  simp [receiveTick, hr, hm]

theorem receiveTick_of_stopped (hr : x.timerRun = false) : receiveTick v r x = x := by
  simp [receiveTick, hr]

theorem receiveTick_of_not_active (hm : x.mode.active = false) : receiveTick v r x = x := by
  obtain ⟨hl, hrd, -⟩ := x.mode.active_eq_false_iff.mp hm
  simp [receiveTick, hl, hrd]

end receiveTick

/-- A tick outside `WRITE` is `receiveTick` on the transceiver record. -/
theorem exec_tick_eq (v : Bool) {s : State} (hm : s.tx.mode ≠ .write) :
    exec (.tick v) s = .next (s.beginStep.withTx (receiveTick v s.env.disarm s.tx)) := by
  change execTick v s = _
  cases hr : s.tx.timerRun
  · rw [receiveTick_of_stopped _ _ hr]
    exact tickWithTheTimerStopped s v hr
  by_cases hl : s.tx.mode = .listen
  · rw [receiveTick_of_listen _ _ hr hl, execTick_of_listen v hr hl]
  by_cases hrd : s.tx.mode = .read
  · rw [receiveTick_of_read _ _ hr hrd, execTick_of_read v hr hrd]
  have hact : s.tx.mode.active = false := s.tx.mode.active_eq_false_iff.mpr ⟨hl, hrd, hm⟩
  rw [receiveTick_of_not_active _ _ hact]
  exact execTick_of_not_active v hact

/-- No tick leads into `WRITE`, and only one in `LISTEN` leaves the block in `LISTEN` (R149). -/
theorem mode_receiveTick (v : Bool) (r : TimerResult) (x : Transceiver) :
    ((receiveTick v r x).mode = .write → x.mode = .write) ∧
      ((receiveTick v r x).mode = .listen → x.mode = .listen) := by
  cases hr : x.timerRun
  · simp [receiveTick_of_stopped _ _ hr]
  by_cases hl : x.mode = .listen
  · have hmem := mode_tickListen_mem v r hl
    rw [receiveTick_of_listen _ _ hr hl]
    refine ⟨fun hw => ?_, fun _ => hl⟩
    simp [hw] at hmem
  by_cases hrd : x.mode = .read
  · have hmem := mode_tickRead_mem v r hrd
    rw [receiveTick_of_read _ _ hr hrd]
    exact ⟨fun hw => by simp [hw] at hmem, fun hw => by simp [hw] at hmem⟩
  by_cases hw : x.mode = .write
  · simp [receiveTick, hw]
  · simp [receiveTick_of_not_active v r (x.mode.active_eq_false_iff.mpr ⟨hl, hrd, hw⟩)]

/-! ### Runs -/

/-- The record after ticks with their samples and draws (`runTicks_eq_receive`). -/
def receive (ts : List (Bool × Env)) (x : Transceiver) : Transceiver :=
  ts.foldl (fun x t => receiveTick t.1 t.2.disarm x) x

/-- The record after ticks with these samples while the timer obeys (`runTicks_eq_receiveSamples`). -/
def receiveSamples (vs : List Bool) (x : Transceiver) : Transceiver :=
  vs.foldl (fun x v => receiveTick v .ok x) x

@[simp] theorem receive_nil (x : Transceiver) : receive [] x = x := rfl

@[simp] theorem receive_cons (t : Bool × Env) (ts : List (Bool × Env)) (x : Transceiver) :
    receive (t :: ts) x = receive ts (receiveTick t.1 t.2.disarm x) := rfl

@[simp] theorem receiveSamples_nil (x : Transceiver) : receiveSamples [] x = x := rfl

@[simp] theorem receiveSamples_cons (v : Bool) (vs : List Bool) (x : Transceiver) :
    receiveSamples (v :: vs) x = receiveSamples vs (receiveTick v .ok x) := rfl

@[simp] theorem receiveSamples_append (vs ws : List Bool) (x : Transceiver) :
    receiveSamples (vs ++ ws) x = receiveSamples ws (receiveSamples vs x) := List.foldl_append

/-- The ticks of a block that does not send never stop the model. -/
theorem runTicks_eq_receive (ts : List (Bool × Env)) {s : State} (hm : s.tx.mode ≠ .write) :
    ∃ u, runTicks ts s = .next u ∧ u.tx = receive ts s.tx := by
  induction ts generalizing s with
  | nil => exact ⟨s, rfl, rfl⟩
  | cons t ts ih =>
    obtain ⟨v, e⟩ := t
    simp only [runTicks, exec_tick_eq v (s := { s with env := e }) hm]
    exact ih (mt (mode_receiveTick v e.disarm s.tx).1 hm)

theorem receive_eq_receiveSamples {ts : List (Bool × Env)} (hd : DisarmOk ts) (x : Transceiver) :
    receive ts x = receiveSamples (ts.map Prod.fst) x := by
  induction ts generalizing x with
  | nil => rfl
  | cons t ts ih =>
    rw [receive_cons, hd t List.mem_cons_self, ih fun t' h => hd t' (List.mem_cons_of_mem _ h)]
    rfl

/-- While the timer obeys only the samples matter. -/
theorem runTicks_eq_receiveSamples {ts : List (Bool × Env)} {vs : List Bool} {s : State} (hm : s.tx.mode ≠ .write)
    (hd : DisarmOk ts) (hvs : ts.map Prod.fst = vs) :
    ∃ u, runTicks ts s = .next u ∧ u.tx = receiveSamples vs s.tx := by
  rw [← hvs, ← receive_eq_receiveSamples hd]
  exact runTicks_eq_receive ts hm

/-- The ticks after the end of a reception change nothing (R170). -/
theorem receive_of_not_active (ts : List (Bool × Env)) {x : Transceiver} (hm : x.mode.active = false) :
    receive ts x = x := by
  induction ts with
  | nil => rfl
  | cons t ts ih => rw [receive_cons, receiveTick_of_not_active _ _ hm, ih]

/-- The ticks presented to a stopped timer are discarded (log 8). -/
theorem receiveSamples_of_stopped (vs : List Bool) {x : Transceiver} (hr : x.timerRun = false) :
    receiveSamples vs x = x := by
  induction vs with
  | nil => rfl
  | cons v vs ih => rw [receiveSamples_cons, receiveTick_of_stopped _ _ hr, ih]

end Sys2Proof.Machine
end

section
/-! PROOFS. Bounds (R181): how long a block can listen and how long it can read. -/

namespace Sys2Proof.Machine

/-! ### Listening -/

/-- A low sample before the timeout counts down (R171). -/
theorem receiveTick_listen_low (r : TimerResult) {x : Transceiver} (hr : x.timerRun = true) (hm : x.mode = .listen)
    (hc : 0 < x.timeoutCnt.toNat) :
    receiveTick false r x = { x with timeoutCnt := BitVec.ofNat 32 (x.timeoutCnt.toNat - 1) } := by
  have h0 : x.timeoutCnt ≠ 0 := fun h => by simp [h] at hc
  rw [receiveTick_of_listen _ _ hr hm, ← countdown_eq h0, tickListen, if_neg h0]
  rfl

/-- `n` low samples before the timeout count down by `n`. -/
theorem receiveSamples_listen_low (n : Nat) {x : Transceiver} (hr : x.timerRun = true) (hm : x.mode = .listen)
    (hn : n ≤ x.timeoutCnt.toNat) :
    receiveSamples (List.replicate n false) x =
      { x with timeoutCnt := BitVec.ofNat 32 (x.timeoutCnt.toNat - n) } := by
  induction n generalizing x with
  | zero => simp
  | succ n ih =>
    have hlt := x.timeoutCnt.isLt
    have hpred : (BitVec.ofNat 32 (x.timeoutCnt.toNat - 1)).toNat = x.timeoutCnt.toNat - 1 := by
      rw [BitVec.toNat_ofNat]
      omega
    rw [List.replicate_succ, receiveSamples_cons, receiveTick_listen_low _ hr hm (by omega)]
    have hrest := ih (x := { x with timeoutCnt := BitVec.ofNat 32 (x.timeoutCnt.toNat - 1) }) hr hm
    rw [hpred, Nat.sub_sub, Nat.add_comm 1 n] at hrest
    exact hrest (Nat.le_sub_one_of_lt hn)

/-- The tick at countdown 0 is the timeout, whatever its sample (R171). -/
theorem receiveTick_listen_timeout (v : Bool) {x : Transceiver} (hr : x.timerRun = true) (hm : x.mode = .listen)
    (hc : x.timeoutCnt = 0) : receiveTick v .ok x = { x with mode := .errorTimeout, timerRun := false } := by
  rw [receiveTick_of_listen _ _ hr hm, tickListen, if_pos hc]
  simp [finishIn, timerStop, hr]

theorem mode_receiveSamples_ne_listen (vs : List Bool) {x : Transceiver} (hm : x.mode ≠ .listen) :
    (receiveSamples vs x).mode ≠ .listen := by
  induction vs generalizing x with
  | nil => exact hm
  | cons v vs ih => exact ih (mt (mode_receiveTick v .ok x).2 hm)

/-- More samples than the countdown end the listening: each of them ends it or counts down. -/
theorem receiveSamples_ends_listening (vs : List Bool) {x : Transceiver} (hr : x.timerRun = true)
    (hm : x.mode = .listen) (hn : x.timeoutCnt.toNat < vs.length) : (receiveSamples vs x).mode ≠ .listen := by
  induction vs generalizing x with
  | nil => simp at hn
  | cons v vs ih =>
    rw [receiveSamples_cons, receiveTick_of_listen _ _ hr hm]
    obtain ⟨-, e⟩ | ⟨-, -, e⟩ | ⟨h0, -, e⟩ := tickListen_cases v .ok x <;> rw [e]
    · have hmem := mode_finishIn_mem .errorTimeout .ok x
      exact mode_receiveSamples_ne_listen vs fun h => by simp [h] at hmem
    · exact mode_receiveSamples_ne_listen vs (by simp)
    · refine ih hr hm ?_
      have hpos : x.timeoutCnt.toNat ≠ 0 := fun h => h0 (BitVec.eq_of_toNat_eq h)
      rw [List.length_cons] at hn
      change (x.timeoutCnt - 1).toNat < vs.length
      bv_omega

/-- Settles O34: low samples count down to the timeout, and every other sample ends the listening at once. -/
theorem listeningIsBounded : Obligations.ListeningIsBounded := by
  intro s ts hm hr hd
  have hnw : s.tx.mode ≠ .write := by simp [hm]
  have hlow (hl : ∀ t ∈ ts, t.1 = false) : ts.map Prod.fst = List.replicate ts.length false :=
    List.eq_replicate_iff.mpr ⟨List.length_map _, by simpa using hl⟩
  have hcountdown :
      receiveSamples (List.replicate s.tx.timeoutCnt.toNat false) s.tx = { s.tx with timeoutCnt := 0 } := by
    rw [receiveSamples_listen_low _ hr hm le_rfl, Nat.sub_self]
    rfl
  refine ⟨fun hlen hl => ?_, fun hlen hl => ?_, fun hlen => ?_⟩
  · obtain ⟨u, hu, htx⟩ := runTicks_eq_receiveSamples hnw hd (hlow hl)
    refine ⟨u, hu, ?_⟩
    rw [htx, hlen, hcountdown]
  · obtain ⟨u, hu, htx⟩ := runTicks_eq_receiveSamples hnw hd (hlow hl)
    refine ⟨u, hu, ?_⟩
    rw [htx, hlen, List.replicate_succ', receiveSamples_append, hcountdown]
    exact receiveTick_listen_timeout false hr hm rfl
  · obtain ⟨u, hu, htx⟩ := runTicks_eq_receiveSamples hnw hd rfl
    refine ⟨u, hu, ?_⟩
    rw [htx]
    exact receiveSamples_ends_listening _ hr hm (by simp [hlen])

/-! ### Reading -/

/-- One more sample makes the edge one tick older (R173). -/
theorem edgeAge_shiftIn {c : BitVec 16} (v : Bool) (h1 : 1 ≤ c.toNat) (h2 : c.toNat ≤ 0xFF) :
    edgeAge (shiftIn c v) = edgeAge c + 1 := by
  have hv : v.toNat ≤ 1 := v.toNat_le
  have hshift : (shiftIn c v).toNat = 2 * c.toNat + v.toNat := by rw [toNat_shiftIn]; omega
  rw [edgeAge, edgeAge, hshift, Nat.log2_def, if_pos (by omega)]
  congr 2
  omega

/-- Ages run up to 8 (R178). -/
theorem edgeAge_le {c : BitVec 16} (h1 : 1 ≤ c.toNat) (h2 : c.toNat ≤ 0x1FF) : edgeAge c ≤ 8 :=
  Nat.lt_succ_iff.mp ((Nat.log2_lt (by omega)).mpr (by omega))

/-- Right after an edge its age is 1. -/
theorem edgeAge_edge (v : Bool) : edgeAge (shiftIn 1 v) = 1 := by
  cases v <;> decide

/-- The ticks a read phase can still take (R181): 18 for each data point to come, 9 of them before the boundary edge
that sets `clock`; the last edge's age is counted off. -/
def readBudget (x : Transceiver) : Nat :=
  18 * (33 - x.bitPos.toNat) + 9 * (1 - x.clock.toNat) + (9 - edgeAge x.capture)

theorem readBudget_le (x : Transceiver) : readBudget x ≤ 612 := by
  unfold readBudget
  omega

theorem readBudget_pos {x : Transceiver} (h : TxInv x) (hm : x.mode = .read) : 0 < readBudget x := by
  obtain ⟨h1, h2⟩ := h.read_capture hm
  have := edgeAge_le h1 h2
  unfold readBudget
  omega

/-- A tick that goes on reading has used at least one tick of the budget. -/
theorem readBudget_tickRead (v : Bool) (r : TimerResult) {x : Transceiver} (h : TxInv x) (hr : x.timerRun = true)
    (hm : x.mode = .read) (hgo : (tickRead v r x).mode = .read) :
    (tickRead v r x).timerRun = true ∧ readBudget (tickRead v r x) < readBudget x := by
  obtain ⟨h1, h2⟩ := h.read_capture hm
  have hage := edgeAge_le h1 h2
  obtain ⟨-, -, e⟩ | ⟨-, hs, e⟩ | ⟨-, -, -, e⟩ | ⟨-, -, -, e⟩ | ⟨-, -, hb, e⟩ | ⟨-, hc, -, e⟩ :=
    tickRead_cases v r x <;> rw [e] at hgo ⊢
  · have hmem := mode_raiseProtocolError_mem .noChangeTooLong r x
    simp [hgo] at hmem
  · have hle : x.capture.toNat ≤ 0xFF := by simpa [isStalled_eq] using hs
    refine ⟨hr, ?_⟩
    simp only [readBudget, appendSample, edgeAge_shiftIn v h1 hle]
    omega
  · have hmem := mode_raiseProtocolError_mem .noTransition r x
    simp [hgo] at hmem
  · have hmem := mode_stopBit_mem (lastSample x.capture) r x
    simp [hgo] at hmem
  · have hpos : x.bitPos.toNat < 33 :=
      lt_of_le_of_ne h.bitPos_le fun h33 => hb (BitVec.eq_of_toNat_eq h33)
    have hsucc : (x.bitPos + 1).toNat = x.bitPos.toNat + 1 := by bv_omega
    refine ⟨hr, ?_⟩
    simp only [readBudget, appendSample, edgeAge_edge, Bool.toNat_false, hsucc]
    omega
  · refine ⟨hr, ?_⟩
    simp only [readBudget, appendSample, edgeAge_edge, hc, Bool.toNat_false, Bool.toNat_true]
    omega

/-- A run as long as the budget ends the read phase. -/
theorem receive_ends_reading (ts : List (Bool × Env)) {x : Transceiver} (h : TxInv x) (hr : x.timerRun = true)
    (hm : x.mode = .read) (hlen : readBudget x ≤ ts.length) :
    (receive ts x).mode ∈ [.received, .errorProtocol, .errorTimer] := by
  induction ts generalizing x with
  | nil => exact absurd hlen (Nat.not_le.mpr (readBudget_pos h hm))
  | cons t ts ih =>
    rw [receive_cons, receiveTick_of_read _ _ hr hm]
    rcases List.mem_cons.mp (mode_tickRead_mem t.1 t.2.disarm hm) with hgo | hend
    · obtain ⟨hr', hlt⟩ := readBudget_tickRead t.1 t.2.disarm h hr hm hgo
      rw [List.length_cons] at hlen
      exact ih (txInv_tickRead _ _ h hr hm) hr' hgo (by omega)
    · rw [receive_of_not_active]
      · exact hend
      · simp only [List.mem_cons, List.not_mem_nil, or_false] at hend
        rcases hend with h | h | h <;> rw [h] <;> rfl

/-- Settles O35: 612 ticks are the budget of a whole read phase. -/
theorem readingIsBounded : Obligations.ReadingIsBounded := by
  intro s ts hm hr hinv hlen
  obtain ⟨u, hu, htx⟩ := runTicks_eq_receive ts (s := s) (by simp [hm])
  refine ⟨u, hu, ?_⟩
  have hend := receive_ends_reading ts hinv hr hm ((readBudget_le s.tx).trans hlen)
  simpa [htx] using hend

end Sys2Proof.Machine
end

section
/-! PROOFS. Runs of equal samples (R173, R178, R183): `capture` is the marker with the samples of the run below it, so
the run's length decides how it is read. -/

namespace Sys2Proof.Machine

/-! ### Captures -/

/-- `capture` with `k` samples `v` below its marker (`InRun.tick`). -/
def runCapture (v : Bool) : Nat → BitVec 16
  | 0 => 1
  | k + 1 => shiftIn (runCapture v k) v

@[simp] theorem lastSample_shiftIn (c : BitVec 16) (v : Bool) : lastSample (shiftIn c v) = v := by
  simp [lastSample, shiftIn]

/-- The edge age counts the samples below the marker, as far as the stall allows (R173). -/
theorem edgeAge_runCapture (v : Bool) {k : Nat} (hk : k ≤ 8) : edgeAge (runCapture v k) = k := by
  revert v k
  decide

/-- A full bit period is an edge age of four or more (R173). -/
theorem isFull_runCapture (v : Bool) {k : Nat} (hk : k ≤ 8) : isFull (runCapture v k) = decide (4 ≤ k) := by
  revert v k
  decide

/-- The stall is an edge age of eight (R178). -/
theorem isStalled_runCapture (v : Bool) {k : Nat} (hk : k ≤ 8) : isStalled (runCapture v k) = decide (k = 8) := by
  revert v k
  decide

/-! ### Runs -/

/-- The block reads, and the last `k` samples it has captured are all `v`. -/
structure InRun (v : Bool) (k : Nat) (x : Transceiver) : Prop where
  mode_eq : x.mode = .read
  timer : x.timerRun = true
  capture_eq : x.capture = runCapture v k
  last : lastSample x.capture = v

/-- A sample at the level of the run makes it longer (R179). -/
theorem InRun.tick {v : Bool} {k : Nat} {x : Transceiver} (h : InRun v k x) (hk : k < 8) :
    receiveTick v .ok x = { x with capture := runCapture v (k + 1) } := by
  have hs : isStalled x.capture = false := by
    rw [h.capture_eq, isStalled_runCapture v hk.le]
    exact decide_eq_false hk.ne
  rw [receiveTick_of_read _ _ h.timer h.mode_eq, tickRead_of_same _ h.last.symm hs, appendSample, h.capture_eq]
  rfl

/-- A sample at the level of a run of eight is one too many (R178). -/
theorem InRun.tick_stalled {v : Bool} {x : Transceiver} (h : InRun v 8 x) :
    receiveTick v .ok x = { x with mode := .errorProtocol, err := .noChangeTooLong, timerRun := false } := by
  have hs : isStalled x.capture = true := by
    rw [h.capture_eq, isStalled_runCapture v le_rfl]
    rfl
  rw [receiveTick_of_read _ _ h.timer h.mode_eq, tickRead_of_stalled _ h.last.symm hs]
  simp [raiseProtocolError, timerStop, h.timer]

theorem InRun.succ {v : Bool} {k : Nat} {x : Transceiver} (h : InRun v k x) :
    InRun v (k + 1) { x with capture := runCapture v (k + 1) } :=
  ⟨h.mode_eq, h.timer, rfl, lastSample_shiftIn _ v⟩

/-- Samples at the level of the run, up to eight in all, change `capture` alone. -/
theorem InRun.samples {v : Bool} {k : Nat} {x : Transceiver} (h : InRun v k x) {n : Nat} (hn : k + n ≤ 8) :
    receiveSamples (List.replicate n v) x = { x with capture := runCapture v (k + n) } ∧
      InRun v (k + n) { x with capture := runCapture v (k + n) } := by
  induction n with
  | zero =>
    rw [Nat.add_zero, ← h.capture_eq]
    exact ⟨rfl, h⟩
  | succ n ih =>
    obtain ⟨e, hrun⟩ := ih (by omega)
    refine ⟨?_, hrun.succ⟩
    rw [List.replicate_succ', receiveSamples_append, e]
    exact hrun.tick (by omega)

/-- A run starts with the edge sample, or with the high sample that started the read phase and is not counted (R173). -/
theorem InRun.of_start {v : Bool} {first : Nat} {x : Transceiver} (hr : x.timerRun = true) (hm : x.mode = .read)
    (hc : x.capture = BitVec.ofNat 16 (2 + v.toNat) ∧ first = 1 ∨ x.capture = 1 ∧ v = true ∧ first = 0) :
    InRun v first x := by
  obtain ⟨hc, rfl⟩ | ⟨hc, rfl, rfl⟩ := hc
  · have he : x.capture = runCapture v 1 := hc.trans (shiftIn_capture_eq 1 v).symm
    exact ⟨hm, hr, he, he ▸ lastSample_shiftIn 1 v⟩
  · exact ⟨hm, hr, hc, hc ▸ rfl⟩

/-- Settles O29: the run's length is the edge age until the ninth sample, which raises the error. -/
theorem aRunOfSamplesIsReadByItsLength : Obligations.ARunOfSamplesIsReadByItsLength := by
  intro s v n first ts hr hm hd hvs hstart
  have hrun : InRun v first s.tx := .of_start hr hm hstart
  obtain ⟨u, hu, htx⟩ := runTicks_eq_receiveSamples (s := s) (by simp [hm]) hd hvs
  refine ⟨fun hn => ⟨u, hu, ?_⟩, fun hn => ⟨u, hu, ?_⟩⟩
  · rw [Nat.add_comm] at hn ⊢
    obtain ⟨e, hend⟩ := hrun.samples hn
    rw [htx, e]
    exact ⟨rfl, hend.last, edgeAge_runCapture v hn, isFull_runCapture v hn⟩
  · cases n with
    | zero => omega
    | succ n =>
      obtain ⟨e, hend⟩ := hrun.samples (n := n) (by omega)
      rw [show first + n = 8 by omega] at e hend
      rw [htx, List.replicate_succ', receiveSamples_append, e, receiveSamples_cons, receiveSamples_nil,
        hend.tick_stalled]
      exact ⟨rfl, rfl, rfl, rfl, by cases v <;> rfl⟩

end Sys2Proof.Machine
end

section
/-! PROOFS. The decoder on a Manchester stream (R182): each cell of the wire format, sampled for `a` and `b` ticks, is
one data point. -/

namespace Sys2Proof.Machine

/-! ### The samples of a word -/

/-- Bits `p - 1` down to 0 of a word, in order of time (`wireBits_eq`). -/
def bitsBelow (w : Word) (p : Nat) : List Bool := (List.range p).map fun i => w.getLsbD (p - 1 - i)

theorem bitsBelow_succ (w : Word) (p : Nat) : bitsBelow w (p + 1) = w.getLsbD p :: bitsBelow w p := by
  simp only [bitsBelow, List.range_succ_eq_map, List.map_cons, List.map_map]
  congr 1
  refine List.map_congr_left fun i _ => ?_
  simp only [Function.comp]
  congr 1
  omega

@[simp] theorem length_bitsBelow (w : Word) (p : Nat) : (bitsBelow w p).length = p := by
  simp [bitsBelow]

/-- The wire format is a start bit, the 32 bits of the word and a stop bit (R107). -/
theorem wireBits_eq (w : Word) : wireBits w = true :: bitsBelow w 32 ++ [true] := rfl

/-- The samples of one cell behind the inverter: the bit's level, then its opposite (R108, R72). -/
def cellSamples (a b : Nat) (c : Bool) : List Bool := List.replicate a c ++ List.replicate b (!c)

theorem holdFor_halves (a b : Nat) (bs : List Bool) :
    holdFor a b ((bs.flatMap fun c => [!c, c]).map not) = bs.flatMap (cellSamples a b) := by
  induction bs with
  | nil => rfl
  | cons c bs ih => simp [holdFor, cellSamples, ih]

theorem receivedSamples_wireLevels (a b lead tail : Nat) (w : Word) :
    receivedSamples a b lead tail (wireLevels w) =
      List.replicate lead false ++ ((wireBits w).flatMap (cellSamples a b) ++ List.replicate tail false) := by
  rw [receivedSamples, wireLevels, holdFor_halves, List.append_assoc]

/-- The bits of a register a bit is shifted into. -/
theorem getLsbD_shiftIn (d : Word) (b : Bool) (k : Nat) (hk : k < 32) :
    (shiftIn d b).getLsbD k = if k = 0 then b else d.getLsbD (k - 1) := by
  cases k with
  | zero => simp [shiftIn]
  | succ k => simp [shiftIn, hk, Nat.lt_of_succ_lt hk]

/-- `p` bits of a word shifted in are its low bits. -/
theorem getLsbD_foldl_shiftIn (w : Word) (p : Nat) (d : Word) {k : Nat} (hk : k < 32) :
    ((bitsBelow w p).foldl shiftIn d).getLsbD k = if k < p then w.getLsbD k else d.getLsbD (k - p) := by
  induction p generalizing d with
  | zero => rfl
  | succ p ih =>
    rw [bitsBelow_succ, List.foldl_cons, ih, getLsbD_shiftIn d _ _ (by omega)]
    obtain hlt | rfl | hgt := Nat.lt_trichotomy k p
    · simp [hlt, Nat.lt_succ_of_lt hlt]
    · simp
    · rw [if_neg (by omega), if_neg (by omega), if_neg (by omega), Nat.sub_sub]

/-- All 32 bits of a word shifted in are the word, whatever was there before (R175). -/
theorem foldl_shiftIn_bitsBelow (w d : Word) : (bitsBelow w 32).foldl shiftIn d = w :=
  BitVec.eq_of_getLsbD_eq fun k hk => by rw [getLsbD_foldl_shiftIn w 32 d hk, if_pos hk]

/-! ### One cell -/

/-- The block reads, and the next edge is a data point whose bit is `c` (R174, R175). -/
structure AtDataPoint (c : Bool) (x : Transceiver) : Prop where
  mode_eq : x.mode = .read
  timer : x.timerRun = true
  last : lastSample x.capture = c
  due : x.clock ≠ isFull x.capture

/-- The block reads, and the last cell ended with `b` samples of the second half of its bit `c`. -/
structure AfterCell (b : Nat) (c : Bool) (x : Transceiver) : Prop where
  inRun : InRun (!c) b x
  clock_eq : x.clock = false

/-- The record after a frame bit's cell (`AfterCell.cell`). -/
def cellRead (b : Nat) (c : Bool) (x : Transceiver) : Transceiver :=
  { x with data := shiftIn x.data c, bitPos := x.bitPos + 1, clock := false, capture := runCapture (!c) b }

/-- The record after the high sample that starts the read phase (R171). -/
def startRead (x : Transceiver) : Transceiver :=
  { x with mode := .read, data := 0, bitPos := 0, capture := 1, clock := true, timeoutCnt := x.timeoutCnt - 1 }

/-- A high sample before the timeout starts the read phase, and is not counted in its run (R171, R173). -/
theorem receiveTick_listen_high {x : Transceiver} (hr : x.timerRun = true) (hm : x.mode = .listen)
    (hc : x.timeoutCnt ≠ 0) : receiveTick true .ok x = startRead x ∧ InRun true 0 (startRead x) := by
  rw [receiveTick_of_listen _ _ hr hm, tickListen, if_neg hc]
  exact ⟨rfl, rfl, hr, rfl, (by decide : lastSample 1 = true)⟩

section cells
variable {a b : Nat} {c : Bool} {x : Transceiver} (hab : a = 3 ∧ b = 2 ∨ a = 2 ∧ b = 3)
include hab

/-- The second half of a frame bit: its first sample is the data point (R175), the others lengthen its run. -/
theorem AtDataPoint.secondHalf (h : AtDataPoint c x) (hp : x.bitPos ≠ 33) :
    receiveSamples (List.replicate b (!c)) x = cellRead b c x ∧ AfterCell b c (cellRead b c x) := by
  obtain ⟨n, rfl⟩ : ∃ n, b = n + 1 := ⟨b - 1, by omega⟩
  have hedge : receiveTick (!c) .ok x = cellRead 1 c x := by
    rw [receiveTick_of_read _ _ h.timer h.mode_eq, tickRead_of_frameBit _ (by simp [h.last]) h.due hp, h.last]
    rfl
  have hrun : InRun (!c) 1 (cellRead 1 c x) := ⟨h.mode_eq, h.timer, rfl, lastSample_shiftIn _ _⟩
  obtain ⟨e, hend⟩ := hrun.samples (n := n) (by omega)
  rw [Nat.add_comm] at e hend
  rw [List.replicate_succ, receiveSamples_cons, hedge, e]
  exact ⟨rfl, hend, rfl⟩

/-- The first half of a bit that differs from the one before: no edge, and a run of both halves, which is a full bit
period (R174 case C). -/
theorem AfterCell.firstHalf_of_ne {p : Bool} (h : AfterCell b p x) (hc : c ≠ p) :
    receiveSamples (List.replicate a c) x = { x with capture := runCapture c (b + a) } ∧
      AtDataPoint c { x with capture := runCapture c (b + a) } := by
  obtain rfl : c = !p := Bool.eq_not.mpr hc
  obtain ⟨e, hend⟩ := h.inRun.samples (n := a) (by omega)
  refine ⟨e, hend.mode_eq, hend.timer, hend.last, ?_⟩
  rw [h.clock_eq, isFull_runCapture _ (by omega), decide_eq_true (by omega)]
  exact Bool.false_ne_true

/-- The first half of a bit equal to the one before: a boundary edge (R174 case D), which makes the next edge a data
point of case B. -/
theorem AfterCell.firstHalf_of_eq (h : AfterCell b c x) :
    receiveSamples (List.replicate a c) x = { x with clock := true, capture := runCapture c a } ∧
      AtDataPoint c { x with clock := true, capture := runCapture c a } := by
  obtain ⟨n, rfl⟩ : ∃ n, a = n + 1 := ⟨a - 1, by omega⟩
  have hfull : isFull x.capture = false := by
    rw [h.inRun.capture_eq, isFull_runCapture _ (by omega)]
    exact decide_eq_false (by omega)
  have hedge : receiveTick c .ok x = { x with clock := true, capture := runCapture c 1 } := by
    rw [receiveTick_of_read _ _ h.inRun.timer h.inRun.mode_eq,
      tickRead_of_boundary _ (by simp [h.inRun.last]) h.clock_eq hfull]
    rfl
  have hrun : InRun c 1 { x with clock := true, capture := runCapture c 1 } :=
    ⟨h.inRun.mode_eq, h.inRun.timer, rfl, lastSample_shiftIn _ _⟩
  obtain ⟨e, hend⟩ := hrun.samples (n := n) (by omega)
  rw [Nat.add_comm] at e hend
  refine ⟨by rw [List.replicate_succ, receiveSamples_cons, hedge, e], hend.mode_eq, hend.timer, hend.last, ?_⟩
  rw [isFull_runCapture _ (by omega), decide_eq_false (by omega)]
  exact Bool.false_ne_true.symm

/-- The first half of a cell leads to a data point, whatever the cell before was. -/
theorem AfterCell.firstHalf {p : Bool} (h : AfterCell b p x) (c : Bool) :
    ∃ y, receiveSamples (List.replicate a c) x = y ∧ AtDataPoint c y ∧
      y = { x with clock := y.clock, capture := y.capture } := by
  by_cases hc : c = p
  · subst hc
    obtain ⟨e, hdata⟩ := h.firstHalf_of_eq hab
    exact ⟨_, e, hdata, rfl⟩
  · obtain ⟨e, hdata⟩ := h.firstHalf_of_ne hab hc
    exact ⟨_, e, hdata, rfl⟩

/-- The cell of a frame bit shifts the bit in. -/
theorem AfterCell.cell {p : Bool} (h : AfterCell b p x) (hp : x.bitPos ≠ 33) (c : Bool) :
    receiveSamples (cellSamples a b c) x = cellRead b c x ∧ AfterCell b c (cellRead b c x) := by
  obtain ⟨y, hy, hdata, hrest⟩ := h.firstHalf hab c
  have hread : cellRead b c y = cellRead b c x := by rw [hrest]; rfl
  rw [cellSamples, receiveSamples_append, hy, ← hread]
  exact hdata.secondHalf hab (by rw [hrest]; exact hp)

/-- The cells of frame bits shift the bits in one by one. -/
theorem AfterCell.cells {p : Bool} (h : AfterCell b p x) (bs : List Bool) (hp : x.bitPos.toNat + bs.length ≤ 33) :
    ∃ y q, receiveSamples (bs.flatMap (cellSamples a b)) x = y ∧ AfterCell b q y ∧
      y = { x with
        data := bs.foldl shiftIn x.data
        bitPos := x.bitPos + BitVec.ofNat 6 bs.length
        clock := y.clock
        capture := y.capture } := by
  induction bs generalizing x p with
  | nil => exact ⟨x, p, rfl, h, by simp⟩
  | cons c bs ih =>
    rw [List.length_cons] at hp
    have hne : x.bitPos ≠ 33 := fun h33 => by simp [h33] at hp
    obtain ⟨e, hnext⟩ := h.cell hab hne c
    have hpos : (cellRead b c x).bitPos.toNat + bs.length ≤ 33 := by
      change (x.bitPos + 1).toNat + _ ≤ 33
      bv_omega
    have hlen : x.bitPos + 1 + BitVec.ofNat 6 bs.length = x.bitPos + BitVec.ofNat 6 (bs.length + 1) := by
      bv_omega
    obtain ⟨y, q, hy, hend, hrest⟩ := ih hnext hpos
    refine ⟨y, q, ?_, hend, ?_⟩
    · rw [List.flatMap_cons, receiveSamples_append, e, hy]
    · rw [List.length_cons, ← hlen]
      exact hrest

/-! ### A whole word -/

/-- The samples of the first half of the start bit start the read phase, and the next edge is a data point. -/
theorem receiveSamples_startBit (hr : x.timerRun = true) (hm : x.mode = .listen) (hc : x.timeoutCnt ≠ 0) :
    ∃ y, receiveSamples (List.replicate a true) x = y ∧ AtDataPoint true y ∧
      y = { startRead x with capture := y.capture } := by
  obtain ⟨n, rfl⟩ : ∃ n, a = n + 1 := ⟨a - 1, by omega⟩
  obtain ⟨hstart, hrun⟩ := receiveTick_listen_high hr hm hc
  obtain ⟨e, hend⟩ := hrun.samples (n := n) (by omega)
  rw [List.replicate_succ, receiveSamples_cons, hstart]
  refine ⟨_, e, ⟨rfl, hr, hend.last, ?_⟩, rfl⟩
  rw [isFull_runCapture _ (by omega), decide_eq_false (by omega)]
  exact Bool.false_ne_true.symm

/-- The second half of the stop bit of a word of good parity ends the reception with its first sample (R176). -/
theorem AtDataPoint.stopBit (h : AtDataPoint true x) (hp : x.bitPos = 33) (hgood : parityOK x.data = true)
    (rest : List Bool) :
    receiveSamples (List.replicate b false ++ rest) x = { x with mode := .received, timerRun := false } := by
  obtain ⟨n, rfl⟩ : ∃ n, b = n + 1 := ⟨b - 1, by omega⟩
  have hodd : popcount x.data % 2 = 1 := by simpa [parityOK] using hgood
  have hend : receiveTick false .ok x = { x with mode := .received, timerRun := false } := by
    rw [receiveTick_of_read _ _ h.timer h.mode_eq, tickRead_of_stopBit _ (by simp [h.last]) h.due hp,
      stopBit_of_odd _ h.last hodd]
    simp [finishIn, timerStop, h.timer]
  rw [List.replicate_succ, List.cons_append, receiveSamples_cons, hend]
  exact receiveSamples_of_stopped _ rfl

/-- The record after a whole word (`receiveSamples_word`): the last samples' `clock` and `capture` are left. -/
def received (w : Word) (clock : Bool) (capture : BitVec 16) (x : Transceiver) : Transceiver :=
  { x with mode := .received, data := w, bitPos := 33, timerRun := false, clock := clock, capture := capture }

/-- The reception of a word (R182): the start bit, 32 frame bits, the stop bit, and samples that no longer matter. -/
theorem receiveSamples_word {w : Word} (hr : x.timerRun = true) (hm : x.mode = .listen) (hc : x.timeoutCnt ≠ 0)
    (hgood : parityOK w = true) (rest : List Bool) :
    ∃ clock capture, receiveSamples ((wireBits w).flatMap (cellSamples a b) ++ rest) x =
      received w clock capture { x with timeoutCnt := x.timeoutCnt - 1 } := by
  obtain ⟨y, hy, hdata, hstart⟩ := receiveSamples_startBit hab hr hm hc
  obtain ⟨hbit, hcell⟩ := hdata.secondHalf hab (by rw [hstart]; exact (by decide : (0 : BitVec 6) ≠ 33))
  obtain ⟨z, q, hz, hcell, hbits⟩ := hcell.cells hab (bitsBelow w 32)
    (by rw [hstart, length_bitsBelow]; exact (by decide : (0 + 1 : BitVec 6).toNat + 32 ≤ 33))
  rw [length_bitsBelow, foldl_shiftIn_bitsBelow] at hbits
  obtain ⟨u, hu, hdata, hstop⟩ := hcell.firstHalf hab true
  have hend := hdata.stopBit hab (by rw [hstop, hbits, hstart]; rfl) (by rw [hstop, hbits]; exact hgood) rest
  refine ⟨u.clock, u.capture, ?_⟩
  have hcells : (wireBits w).flatMap (cellSamples a b) ++ rest =
      List.replicate a true ++ (List.replicate b (!true) ++ ((bitsBelow w 32).flatMap (cellSamples a b) ++
        (List.replicate a true ++ (List.replicate b false ++ rest)))) := by
    simp [wireBits_eq, cellSamples]
  simp only [hcells, receiveSamples_append, hy, hbit, hz, hu, hend]
  rw [hstop, hbits, hstart]
  rfl

end cells

/-- Settles O32: the record after the whole word. -/
theorem decoderReceivesTheWireFormat : Obligations.DecoderReceivesTheWireFormat := by
  intro s w a b lead tail ts hm hr hlead hgood hab hvs hd
  have hlt := s.tx.timeoutCnt.isLt
  have hcnt : BitVec.ofNat 32 (s.tx.timeoutCnt.toNat - lead) ≠ 0 := by bv_omega
  obtain ⟨u, hu, htx⟩ := runTicks_eq_receiveSamples (s := s) (by simp [hm]) hd hvs
  obtain ⟨clock, capture, hend⟩ := receiveSamples_word
    (x := { s.tx with timeoutCnt := BitVec.ofNat 32 (s.tx.timeoutCnt.toNat - lead) }) hab hr hm hcnt hgood
    (List.replicate tail false)
  rw [receivedSamples_wireLevels, receiveSamples_append, receiveSamples_listen_low lead hr hm hlead.le, hend] at htx
  refine ⟨u, hu, ?_⟩
  rw [htx]
  refine ⟨rfl, rfl, rfl, rfl, rfl, ?_⟩
  change BitVec.ofNat 32 (s.tx.timeoutCnt.toNat - lead) - 1 = _
  bv_omega

end Sys2Proof.Machine
end

section
/-! PROOFS. The encoder (R200 to R204): slot by slot, each slot two ticks, the sender drives the wire format of its
shift register. -/

namespace Sys2Proof.Machine

/-! ### Ticks of a sender -/

/-- The first tick of a run, in the line's trace. -/
theorem lineTrace_cons {t : Bool × Env} {s u : State} (h : exec (.tick t.1) { s with env := t.2 } = .next u)
    (ts : List (Bool × Env)) : lineTrace (t :: ts) s = u.tx.lineOut :: lineTrace ts u := by
  simp only [lineTrace, h]

/-- The first tick of a run, in the run's result. -/
theorem runTicks_cons {t : Bool × Env} {s u : State} (h : exec (.tick t.1) { s with env := t.2 } = .next u)
    (ts : List (Bool × Env)) : runTicks (t :: ts) s = runTicks ts u := by
  simp only [runTicks, h]

theorem execTick_of_write {s : State} {b : Bool} (v : Bool) (hr : s.tx.timerRun = true) (hm : s.tx.mode = .write)
    (hb : slotBit s.tx.data s.tx.bitPos = some b) :
    execTick v s = .next (s.beginStep.withTx (tickWrite b s.env.disarm s.tx)) := by
  simp [execTick, hr, hm, hb]

/-- The block sends, and the next tick drives the first half of a slot whose bit is `b` (R200). -/
structure AtSlot (b : Bool) (x : Transceiver) : Prop where
  mode_eq : x.mode = .write
  timer : x.timerRun = true
  clock_eq : x.clock = true
  bit : slotBit x.data x.bitPos = some b

/-- The record after the first half of a slot (R200). -/
def halfSent (b : Bool) (x : Transceiver) : Transceiver := { x with lineOut := !b, clock := false }

/-- The two ticks of a slot drive `NOT b` and then what the second one drives (R108, R200). -/
theorem AtSlot.two_ticks {b : Bool} {s : State} (h : AtSlot b s.tx) (t1 t2 : Bool × Env) :
    ∃ u, u.tx = tickWrite b t2.2.disarm (halfSent b s.tx) ∧
      ∀ ts, lineTrace (t1 :: t2 :: ts) s = (!b) :: u.tx.lineOut :: lineTrace ts u ∧
        runTicks (t1 :: t2 :: ts) s = runTicks ts u := by
  obtain ⟨s1, h1, hs1⟩ : ∃ s1, exec (.tick t1.1) { s with env := t1.2 } = .next s1 ∧ s1.tx = halfSent b s.tx :=
    ⟨_, execTick_of_write t1.1 h.timer h.mode_eq h.bit, if_pos h.clock_eq⟩
  obtain ⟨u, h2, hu⟩ : ∃ u, exec (.tick t2.1) { s1 with env := t2.2 } = .next u ∧
      u.tx = tickWrite b t2.2.disarm (halfSent b s.tx) := by
    rw [← hs1]
    refine ⟨_, execTick_of_write t2.1 ?_ ?_ ?_, rfl⟩ <;> rw [hs1]
    exacts [h.timer, h.mode_eq, h.bit]
  refine ⟨u, hu, fun ts => ⟨?_, ?_⟩⟩
  · rw [lineTrace_cons h1, lineTrace_cons h2, hs1]
    rfl
  · rw [runTicks_cons h1, runTicks_cons h2]

/-- The second half of a slot that is not the last (R202). -/
theorem tickWrite_halfSent {b : Bool} (r : TimerResult) {x : Transceiver} (hp : x.bitPos ≠ 0) :
    tickWrite b r (halfSent b x) = { x with lineOut := b, clock := true, bitPos := x.bitPos - 1 } :=
  if_neg hp

/-- The second half of the stop bit, with a timer that obeys (R203). -/
theorem tickWrite_halfSent_last {b : Bool} {x : Transceiver} (hp : x.bitPos = 0) (hr : x.timerRun = true) :
    tickWrite b .ok (halfSent b x) = { x with lineOut := b, clock := true, mode := .sent, timerRun := false } := by
  refine (if_pos hp).trans ?_
  simp [finishIn, timerStop, halfSent, lineDrive, hr]

/-! ### A whole frame -/

/-- The ticks drive the two halves of each of these bits, and end the transmission (R203, R204). -/
def Sends (bits : List Bool) (ts : List (Bool × Env)) (s : State) : Prop :=
  lineTrace ts s = bits.flatMap (fun b => [!b, b]) ∧
    ∃ u, runTicks ts s = .next u ∧
      u.tx = { s.tx with mode := .sent, bitPos := 0, clock := true, lineOut := true, timerRun := false }

/-- A slot that is not the last, and then the slots after it. -/
theorem AtSlot.sends_cons {b : Bool} {s : State} (h : AtSlot b s.tx) (hp : s.tx.bitPos ≠ 0) {bits : List Bool}
    (t1 t2 : Bool × Env) {ts : List (Bool × Env)}
    (hrest : ∀ u : State,
      u.tx = { s.tx with lineOut := b, clock := true, bitPos := s.tx.bitPos - 1 } → Sends bits ts u) :
    Sends (b :: bits) (t1 :: t2 :: ts) s := by
  obtain ⟨u, hu, hticks⟩ := h.two_ticks t1 t2
  rw [tickWrite_halfSent _ hp] at hu
  obtain ⟨htrace, v, hv, hend⟩ := hrest u hu
  obtain ⟨htrace', hrun⟩ := hticks ts
  refine ⟨?_, v, hrun.trans hv, ?_⟩
  · rw [htrace', htrace, hu]
    rfl
  · rw [hend, hu]

/-- The stop bit. -/
theorem AtSlot.sends_last {b : Bool} {s : State} (h : AtSlot b s.tx) (hp : s.tx.bitPos = 0) (t1 t2 : Bool × Env)
    (hd : t2.2.disarm = .ok) : Sends [true] [t1, t2] s := by
  obtain rfl : b = true := slotBit_zero h.bit hp
  obtain ⟨u, hu, hticks⟩ := h.two_ticks t1 t2
  rw [hd, tickWrite_halfSent_last hp h.timer] at hu
  obtain ⟨htrace, hrun⟩ := hticks []
  refine ⟨?_, u, hrun, ?_⟩
  · rw [htrace, hu]
    rfl
  · rw [hu, hp]

/-- Slot `p + 1` of 32 sends bit `p` of the shift register (R201). -/
theorem slotBit_succ (w : Word) {pos : BitVec 6} {p : Nat} (hpos : pos.toNat = p + 1) (hp : p < 32) :
    slotBit w pos = some (w.getLsbD p) := by
  have h33 : pos ≠ 33 := fun h => by simp [h] at hpos; omega
  have h0 : pos ≠ 0 := fun h => by simp [h] at hpos
  have hedge : ¬(pos = lastSlot ∨ pos = 0) := not_or.mpr ⟨h33, h0⟩
  rw [slotBit, if_neg hedge, if_pos (by rw [hpos]; exact hp), hpos, Nat.add_sub_cancel]

/-- From slot `p` of 32 on: bits `p - 1` down to 0 of the shift register, and the stop bit. -/
theorem sends_bitsBelow {p : Nat} (hp : p ≤ 32) {s : State} {ts : List (Bool × Env)} (hm : s.tx.mode = .write)
    (hr : s.tx.timerRun = true) (hc : s.tx.clock = true) (hpos : s.tx.bitPos.toNat = p) (hlen : ts.length = 2 * p + 2)
    (hd : DisarmOk ts) : Sends (bitsBelow s.tx.data p ++ [true]) ts s := by
  induction p generalizing s ts with
  | zero =>
    obtain ⟨t1, t2, rfl⟩ := List.length_eq_two.mp hlen
    have h0 : s.tx.bitPos = 0 := BitVec.eq_of_toNat_eq hpos
    have h : AtSlot true s.tx := ⟨hm, hr, hc, by simp [slotBit, h0]⟩
    exact h.sends_last h0 t1 t2 (hd t2 (by simp))
  | succ p ih =>
    obtain _ | ⟨t1, _ | ⟨t2, ts⟩⟩ := ts
    · simp at hlen
    · simp at hlen
    have h0 : s.tx.bitPos ≠ 0 := fun h => by simp [h] at hpos
    have h : AtSlot (s.tx.data.getLsbD p) s.tx := ⟨hm, hr, hc, slotBit_succ _ hpos (by omega)⟩
    rw [bitsBelow_succ]
    refine h.sends_cons h0 t1 t2 fun u hu => ?_
    have hdata : u.tx.data = s.tx.data := by rw [hu]
    rw [← hdata]
    refine ih (by omega) (by simp [hu, hm]) (by simp [hu, hr]) (by simp [hu]) ?_ ?_ ?_
    · rw [hu]
      bv_omega
    · simp only [List.length_cons] at hlen
      omega
    · exact fun t ht => hd t (by simp [ht])

/-- A whole frame: 68 ticks from the start bit's first half drive the wire format (R204). -/
theorem sends_wireBits {s : State} {ts : List (Bool × Env)} (hm : s.tx.mode = .write) (hr : s.tx.timerRun = true)
    (hc : s.tx.clock = true) (hpos : s.tx.bitPos = 33) (hlen : ts.length = 68) (hd : DisarmOk ts) :
    Sends (wireBits s.tx.data) ts s := by
  obtain _ | ⟨t1, _ | ⟨t2, ts⟩⟩ := ts
  · simp at hlen
  · simp at hlen
  have h : AtSlot true s.tx := ⟨hm, hr, hc, by simp [slotBit, lastSlot, hpos]⟩
  rw [wireBits_eq, List.cons_append]
  refine h.sends_cons (by simp [hpos]) t1 t2 fun u hu => ?_
  have hdata : u.tx.data = s.tx.data := by rw [hu]
  rw [← hdata]
  refine sends_bitsBelow le_rfl (by simp [hu, hm]) (by simp [hu, hr]) (by simp [hu]) ?_ ?_ ?_
  · rw [hu, hpos]
    rfl
  · simpa using hlen
  · exact fun t ht => hd t (by simp [ht])

end Sys2Proof.Machine
end

section
/-! PROOFS. The line between a sender and a receiver (R182): the receiver reads back the frame the sender packed. -/

namespace Sys2Proof.Machine

/-- The response word is the payload of the frame in `data` (R105, R118). -/
theorem messageWord_eq_payload (data : Word) : messageWord data = (Frame.unpack data).payload := rfl

/-- `GET_MESSAGE` in `RECEIVED` (R146). -/
theorem execGetMessage_of_received {s : State} (hm : s.tx.mode = .received) :
    exec .getMessage s = .next (s.beginStep.respond (.message true (messageWord s.tx.data))) := by
  simp only [exec, execGetMessage, hm]

/-- A `SEND` with both draws good starts the transmission of the packed frame (R145). -/
theorem execSend_starts {s : State} (f : Frame) (ha : s.tx.available = true) (hd : s.DisarmObeys)
    (harm : s.env.arm = .ok) :
    ∃ t, exec (.send f.ty f.id f.hb f.lb) s = .next t ∧
      t.tx = { s.tx with
        data := f.pack, clock := true, bitPos := 33, mode := .write, timerRun := true, timerRate := .tx } := by
  obtain ⟨hok, -, -⟩ := State.restart_outcomes (startSending_cases s.env f s.tx)
  exact ⟨_, execSend_of_available f ha, hok hd harm⟩

/-- Settles O33: the sender drives the wire format of the packed frame, whose parity is good, so the receiver ends
with that frame in `data`. -/
theorem roundTripThroughTheLine : Obligations.RoundTripThroughTheLine := by
  intro snd rcv f a b lead tail ts rs ha hobeys harm hlen hd hm hr hlead hab
  obtain ⟨t, ht, htx⟩ := execSend_starts f ha hobeys harm
  obtain ⟨htrace, -⟩ : Sends (wireBits t.tx.data) ts t := by
    refine sends_wireBits ?_ ?_ ?_ ?_ hlen hd <;> rw [htx]
  have hlevels : lineTrace ts t = wireLevels f.pack := by rw [htrace, htx]; rfl
  refine ⟨t, ht, fun hrs hdr => ?_⟩
  rw [hlevels] at hrs
  obtain ⟨u, hu, hmode, hdata, -⟩ :=
    decoderReceivesTheWireFormat rcv f.pack a b lead tail rs hm hr hlead f.parityOK_pack hab hrs hdr
  refine ⟨u, _, hu, execGetMessage_of_received hmode, ?_⟩
  rw [State.respond_response, hdata, messageWord_eq_payload, f.unpack_pack]

end Sys2Proof.Machine
end

section
/-! PROOFS. The statements about the encoder (R200 to R204). -/

namespace Sys2Proof.Machine

/-- The bit of every slot there is: the start bit, the frame's bits, the stop bit (R201). -/
theorem slotBit_of_le (w : Word) {pos : BitVec 6} (h : pos.toNat ≤ 33) :
    slotBit w pos = some (if pos = 33 ∨ pos = 0 then true else w.getLsbD (pos.toNat - 1)) := by
  by_cases hedge : pos = 33 ∨ pos = 0
  · rw [if_pos hedge]
    exact if_pos hedge
  · rw [if_neg hedge]
    have hframe : pos.toNat ≤ frameBits := by
      have h33 : pos.toNat ≠ 33 := fun e => hedge (.inl (BitVec.eq_of_toNat_eq e))
      rw [frameBits]
      omega
    exact (if_neg hedge).trans (if_pos hframe)

/-- One slot down, the position not being 0 (R202). -/
theorem slotDown_eq {pos : BitVec 6} (h : pos ≠ 0) : pos - 1 = BitVec.ofNat 6 (pos.toNat - 1) := by
  have hpos : pos.toNat ≠ 0 := fun h0 => h (BitVec.eq_of_toNat_eq h0)
  bv_omega

section
variable {b : Bool} {x : Transceiver}

/-- The first half of a slot (R200). -/
theorem tickWrite_of_firstHalf (r : TimerResult) (hc : x.clock = true) :
    tickWrite b r x = { x with lineOut := !b, clock := false } :=
  if_pos hc

/-- The second half of a slot that is not the last (R202). -/
theorem tickWrite_of_secondHalf (r : TimerResult) (hc : x.clock = false) (hp : x.bitPos ≠ 0) :
    tickWrite b r x = { x with lineOut := b, clock := true, bitPos := x.bitPos - 1 } :=
  (if_neg (by simp [hc])).trans (if_neg hp)

/-- The second half of the last slot, whether or not the timer obeys (R203). -/
theorem State.tickWrite_of_lastHalf (s : State) (hc : x.clock = false) (hp : x.bitPos = 0) (hr : x.timerRun = true) :
    tickWrite b s.env.disarm x = s.endedIn .sent { x with lineOut := b, clock := true } := by
  rw [tickWrite, if_neg (by simp [hc]), if_pos hp]
  exact s.finishIn_eq_endedIn .sent hr

end

/-- Settles O30: the clock phase and the slot decide which half-slot it is. -/
theorem tickWritesAHalfSlot : Obligations.TickWritesAHalfSlot := by
  intro s v b hr hm hle hb
  have hbit : slotBit s.tx.data s.tx.bitPos = some b := hb ▸ slotBit_of_le s.tx.data hle
  simp only [exec, execTick_of_write v hr hm hbit]
  refine ⟨fun hc => ?_, fun hc hp => ?_, fun hc hp => ?_⟩
  · rw [tickWrite_of_firstHalf _ hc]
    rfl
  · rw [tickWrite_of_secondHalf _ hc hp, slotDown_eq hp]
    rfl
  · obtain rfl : b = true := slotBit_zero hbit hp
    rw [s.tickWrite_of_lastHalf hc hp hr]
    rfl

/-- Settles O31: `SEND` leaves the block at the first half of the start bit of the packed frame, from where the ticks
send the whole of it. -/
theorem encoderDrivesTheWireFormat : Obligations.EncoderDrivesTheWireFormat := by
  intro s f ts ha hobeys harm hlen hd
  obtain ⟨t, ht, htx⟩ := execSend_starts f ha hobeys harm
  obtain ⟨htrace, u, hu, hend⟩ : Sends (wireBits t.tx.data) ts t := by
    refine sends_wireBits ?_ ?_ ?_ ?_ hlen hd <;> rw [htx]
  have hdata : t.tx.data = f.pack := by rw [htx]
  rw [hdata] at htrace
  exact ⟨t, u, ht, htrace, hu, hend⟩

end Sys2Proof.Machine
end

section
/-! PROOFS. The configuration (R215, R216) and the lists derived from it (R218, R219). -/

namespace Sys2Proof.Machine

/-! ### The two configuration operations -/

/-- A configured identifier stays configured when the table of the marks is the same. -/
theorem Scheduler.isConfigured_congr {c d : Scheduler} (h : d.configured = c.configured) :
    d.isConfigured = c.isConfigured := by
  funext i
  simp only [Scheduler.isConfigured, h]

theorem Scheduler.orderOf_congr {c d : Scheduler} (h : d.order = c.order) : d.orderOf = c.orderOf := by
  funext i
  simp only [Scheduler.orderOf, h]

/-- No effect on the scheduler record removes a configured identifier: `CFG_MSG` adds one, and nothing else writes the
marks. -/
theorem SchedEffect.isConfigured {s : State} {c : Scheduler} (e : SchedEffect s c) {j : Ident}
    (h : s.sched.isConfigured j = true) : c.isConfigured j = true := by
  cases e with
  | keep | cfgCtrl | setupFailed | startConversation | retry | fail => exact h
  | cfgMsg id order => simp [h]
  | setup => exact (congrFun (Scheduler.isConfigured_congr (s.sched.startRotation_configured _ _)) j).trans h
  | advance => exact (congrFun (Scheduler.isConfigured_congr (s.sched.advanceCursor_configured _ _)) j).trans h

/-- Settles O37: `CFG_MSG` is `configure`, and no operation's effect on the scheduler record removes an identifier. -/
theorem cfgMsgResult : Obligations.CfgMsgResult := by
  refine ⟨fun s id order => ⟨fun hd => ?_, fun hd => if_pos hd⟩, fun i s t j h hj => (exec_sched h).isConfigured hj⟩
  refine ⟨s.beginStep.withSched (s.sched.configure id order), if_neg (by simp [hd]), fun j => ?_, fun j => ?_, rfl⟩
  · exact s.sched.orderOf_configure id order j
  · by_cases hj : j = id <;> simp [hj]

/-- Settles O38: the two refusals are tested first. -/
theorem cfgCtrlResult : Obligations.CfgCtrlResult := by
  refine fun s sync ms => ⟨fun hd hle => ?_, fun hd hlt => ?_, fun hd => if_pos hd⟩
  · have hle' : ¬ maxTimeoutMs < ms.toNat := Nat.not_lt.mpr hle
    refine (if_neg (by simp [hd])).trans ((if_neg hle').trans ?_)
    rw [BitVec.ofNat_toNat]
    rfl
  · exact (if_neg (by simp [hd])).trans (if_pos hlt)

/-! ### The derived lists -/

/-- R218: the startup list holds the configured identifiers that do not repeat. -/
theorem mem_deriveInitial_iff (p : Platform) (c : Scheduler) (i : Ident) :
    i ∈ deriveInitial p c ↔ c.isConfigured i = true ∧ c.orderOf i ≠ 255 := by
  simp [deriveInitial, mem_allIdents, Scheduler.isStartup, orderRepeating]

/-- R219: the repeating list holds the configured identifiers that repeat. -/
theorem mem_deriveRepeating_iff (p : Platform) (c : Scheduler) (i : Ident) :
    i ∈ deriveRepeating p c ↔ c.isConfigured i = true ∧ c.orderOf i = 255 := by
  simp [deriveRepeating, mem_allIdents, Scheduler.isRepeating, orderRepeating]

/-- The order by `(order, rank)` is total. -/
theorem startupLe_total (p : Platform) (c : Scheduler) : Std.Total (startupLe p c) where
  total i j := by simp only [startupLe]; bv_omega

/-- The order by `(order, rank)` is transitive. -/
theorem startupLe_trans (p : Platform) (c : Scheduler) : IsTrans Ident (startupLe p c) where
  trans i j k := by simp only [startupLe]; bv_omega

theorem deriveInitial_pairwise (p : Platform) (c : Scheduler) : (deriveInitial p c).Pairwise (startupLe p c) :=
  have := startupLe_total p c
  have := startupLe_trans p c
  List.pairwise_insertionSort _ _

theorem deriveRepeating_pairwise (p : Platform) (c : Scheduler) : (deriveRepeating p c).Pairwise (rankLe p) :=
  have : Std.Total (rankLe p) := ⟨fun _ _ => Nat.le_total _ _⟩
  have : IsTrans Ident (rankLe p) := ⟨fun _ _ _ => Nat.le_trans⟩
  List.pairwise_insertionSort _ _

/-- Settles O40: each list is a part of the identifiers, sorted. -/
theorem derivedListsAreSortedAndComplete : Obligations.DerivedListsAreSortedAndComplete := fun p c =>
  ⟨mem_deriveInitial_iff p c, deriveInitial_nodup p c, deriveInitial_length_le p c, deriveInitial_pairwise p c,
    mem_deriveRepeating_iff p c, deriveRepeating_nodup p c, deriveRepeating_length_le p c, deriveRepeating_pairwise p c⟩

end Sys2Proof.Machine
end

section
/-! PROOFS. `SETUP` (R217) and the rotation it starts (R221, R237). -/

namespace Sys2Proof.Machine

variable {p : Platform} {c : Scheduler}

/-! ### Setup -/

/-- The table holds the list written from its first entry on (R34). -/
theorem Scheduler.take_writeRot_rot {l : List Ident} (rest : Vector Ident 256) (c : Scheduler) (h : l.length ≤ 256) :
    (c.writeRot l rest).rot.toList.take l.length = l := by
  have hl := c.writeRot_rotList l rest h
  rwa [Scheduler.rotList, c.writeRot_rotLen_toNat l rest h] at hl

/-- With something to poll at startup, that is the first list (R217). -/
theorem Scheduler.startRotation_of_startup (rest : Vector Ident 256) (h : deriveInitial p c ≠ []) :
    c.startRotation p rest = { c.writeRot (deriveInitial p c) rest with cursor := 0, phase := .initial } :=
  ((c.startRotation_cases p rest).resolve_right fun h' => h h'.1).2

/-- With nothing to poll at startup the repeating list is the first one (R217). -/
theorem Scheduler.startRotation_of_noStartup (rest : Vector Ident 256) (h : deriveInitial p c = []) :
    c.startRotation p rest = { c.writeRot (deriveRepeating p c) rest with cursor := 0, phase := .repeating } :=
  ((c.startRotation_cases p rest).resolve_left fun h' => h'.1 h).2

/-- `SETUP` after a good `INIT` (R217). -/
theorem execSetup_of_good {s : State} (hd : s.sched.setupDone = false) (hi : s.tx.inited = true)
    (hf : s.tx.initFailed = false) :
    execSetup s = .next
      ((s.beginStep.withSched { s.sched.startRotation s.platform s.env.rotRest with setupDone := true }).respond
        (.ack true)) := by
  simp [execSetup, hd, hi, hf]

/-- Settles O39: the refusals and the failed `INIT` are tested first, and what is left is the derivation of the list. -/
theorem setupResult : Obligations.SetupResult := by
  refine fun s => ⟨fun hd => if_pos hd, fun hd hi => ?_, fun hd hi hf => ?_, fun hd hi hf hne => ?_,
    fun hd hi hf hnil => ?_⟩
  · simp [exec, execSetup, hd, hi]
  · simp only [exec, execSetup, hd, hi, hf]
    rfl
  · refine ⟨_, Scheduler.take_writeRot_rot s.env.rotRest s.sched (deriveInitial_length_le s.platform s.sched), ?_⟩
    refine (execSetup_of_good hd hi hf).trans ?_
    rw [Scheduler.startRotation_of_startup _ hne]
    rfl
  · refine ⟨_, Scheduler.take_writeRot_rot s.env.rotRest s.sched (deriveRepeating_length_le s.platform s.sched), ?_⟩
    refine (execSetup_of_good hd hi hf).trans ?_
    rw [Scheduler.startRotation_of_noStartup _ hnil]
    rfl

/-! ### Fairness (R237) -/

/-- The derived repeating list depends on the configuration alone. -/
theorem deriveRepeating_congr (p : Platform) {c d : Scheduler} (ho : d.order = c.order)
    (hc : d.configured = c.configured) : deriveRepeating p d = deriveRepeating p c := by
  have hr : d.isRepeating = c.isRepeating := by
    funext i
    rw [Scheduler.isRepeating, Scheduler.isConfigured_congr hc, Scheduler.orderOf_congr ho, Scheduler.isRepeating]
  rw [deriveRepeating, deriveRepeating, hr]

/-- What the rotation will request: `l`, the rest of the list from the cursor on, and then `rep` again and again. Where
`l` is finished, the cursor is at the start of `rep` already (R221). -/
structure Upcoming (p : Platform) (rep l : List Ident) (c : Scheduler) : Prop where
  repeating : deriveRepeating p c = rep
  rotLen_le : c.rotLen.toNat ≤ 256
  remaining : c.rotList.drop c.cursor.toNat = if l = [] then rep else l

/-- A list just written, with the cursor at its start, is what remains of the list. -/
theorem Upcoming.of_writeRot {rep l m : List Ident} (rest : Vector Ident 256) (ph : Phase)
    (hrep : deriveRepeating p c = rep) (hm : m.length ≤ 256) (hl : m = if l = [] then rep else l) :
    Upcoming p rep l { c.writeRot m rest with cursor := 0, phase := ph } where
  repeating := (deriveRepeating_congr p rfl rfl).trans hrep
  rotLen_le := (c.writeRot_rotLen_toNat m rest hm).trans_le hm
  remaining := (c.writeRot_rotList m rest hm).trans hl

/-- From `SETUP` on the rotation will request the startup list and then the repeating list again and again (R217). -/
theorem Upcoming.startRotation (p : Platform) (c : Scheduler) (rest : Vector Ident 256) :
    Upcoming p (deriveRepeating p c) (deriveInitial p c) (c.startRotation p rest) := by
  obtain ⟨hne, e⟩ | ⟨hnil, e⟩ := c.startRotation_cases p rest <;> rw [e]
  · exact .of_writeRot rest _ rfl (deriveInitial_length_le p c) (if_neg hne).symm
  · exact .of_writeRot rest _ rfl (deriveRepeating_length_le p c) (if_pos hnil).symm

/-- When the list is finished, what remains is a whole repeating list. -/
theorem Upcoming.wrap {rep : List Ident} (h : Upcoming p rep [] c) : Upcoming p rep rep c :=
  ⟨h.repeating, h.rotLen_le, by simpa using h.remaining⟩

section
variable {rep l : List Ident} {i : Ident} (h : Upcoming p rep (i :: l) c)
include h

/-- The next identifier requested is the first one that remains (R35). -/
theorem Upcoming.current : c.current = some i := by
  have hr : c.rotList.drop c.cursor.toNat = i :: l := by simpa using h.remaining
  rw [c.current_eq, ← List.head?_drop, hr, List.head?_cons]

/-- The list ends as many entries after the cursor as remain. -/
theorem Upcoming.rotLen_eq : c.rotLen.toNat = c.cursor.toNat + (l.length + 1) := by
  have hlen := congrArg List.length h.remaining
  have hle := h.rotLen_le
  simp [Scheduler.rotList] at hlen
  omega

/-- `AdvanceCursor` goes on to the next identifier that remains, and from the last one to the repeating list (R221). -/
theorem Upcoming.advanceCursor (rest : Vector Ident 256) : Upcoming p rep l (c.advanceCursor p rest) := by
  have hlen := h.rotLen_eq
  have hle := h.rotLen_le
  obtain ⟨hlast, e⟩ | ⟨hmore, e⟩ := c.advanceCursor_cases p rest <;> rw [e]
  · obtain rfl : l = [] := List.length_eq_zero_iff.mp (by omega)
    exact .of_writeRot rest _ h.repeating (deriveRepeating_length_le p c) h.repeating
  · have hl : l ≠ [] := fun hnil => by simp [hnil] at hlen; omega
    have hpos : 0 < l.length := List.length_pos_iff.mpr hl
    have hcur : (c.cursor + 1).toNat = c.cursor.toNat + 1 := by
      bv_omega
    refine ⟨(deriveRepeating_congr p rfl rfl).trans h.repeating, h.rotLen_le, ?_⟩
    change c.rotList.drop (c.cursor + 1).toNat = _
    rw [hcur, ← List.drop_drop, h.remaining]
    simp [hl]

end

/-- Conversations that all end in `RECEIVED` request what is upcoming, entry by entry: a finished list hands over to a
copy of the repeating list. -/
theorem Upcoming.requestSequence_eq {rep : List Ident} : ∀ (k : Nat) (l : List Ident) {c : Scheduler},
    Upcoming p rep l c → ∀ {rests : List (Vector Ident 256)}, rests.length = l.length + k * rep.length →
    requestSequence p rests c = (l ++ (List.replicate k rep).flatten).map some
  | 0, [], _, _, rests, hlen => by
    obtain rfl : rests = [] := List.length_eq_zero_iff.mp (by simpa using hlen)
    rfl
  | k + 1, [], _, h, _, hlen => by
    have hlen' := hlen.trans (show _ = rep.length + k * rep.length by simp [Nat.succ_mul, Nat.add_comm])
    exact requestSequence_eq k rep h.wrap hlen'
  | k, i :: l, c, h, rests, hlen => by
    obtain ⟨rest, rests, rfl⟩ := List.exists_cons_of_length_pos (l := rests) (by simp at hlen; omega)
    have hlen' : rests.length = l.length + k * rep.length := by simp at hlen; omega
    simp [requestSequence, h.current, requestSequence_eq k l (h.advanceCursor rest) hlen']
termination_by k l => (k, l.length)

/-- Settles O41: after `SETUP` the startup list is upcoming, and then the repeating list again and again. -/
theorem rotationIsFair : Obligations.RotationIsFair :=
  fun p c _ rest _ hlen => Upcoming.requestSequence_eq _ _ (.startRotation p c rest) hlen

end Sys2Proof.Machine
end

section
/-! PROOFS. The request (R222, R223). -/

namespace Sys2Proof.Machine

/-! ### The status byte -/

/-- Bit `k` of the status byte is flag `k`, and there are seven flags (R223). -/
theorem Env.getLsbD_statusByte (e : Env) (k : Nat) :
    e.statusByte.getLsbD k = (decide (k ≤ 6) && e.statusFlag k) := by
  by_cases hk : k < 8
  · interval_cases k <;> simp [Env.statusByte]
  · rw [BitVec.getLsbD_of_ge _ _ (Nat.not_lt.mp hk)]
    simp [show ¬ k ≤ 6 by omega]

/-- Settles O42: flag 0 has the third condition, the others have two. -/
theorem statusByteBits : Obligations.StatusByteBits := by
  intro e k
  rw [e.getLsbD_statusByte]
  by_cases h0 : k = 0
  · simp [Env.statusFlag, h0]
  · by_cases h6 : k ≤ 6 <;> simp [Env.statusFlag, h0, h6]

/-! ### The role of an identifier -/

/-- A write handler is registered exactly where looking one up finds one. -/
theorem lookup_isSome_iff_mem (l : List (Ident × BitVec 16)) (id : Ident) :
    (l.lookup id).isSome = true ↔ ∃ v, (id, v) ∈ l := by
  simp [List.lookup_isSome_iff]

/-- R43: a write handler decides wherever one is registered, else a read handler, and else there is none. -/
theorem Env.role_cases (e : Env) (id : Ident) :
    ((∃ v, (id, v) ∈ e.writeHandlers) ∧ e.role id = .writeHandler) ∨
    ((¬ ∃ v, (id, v) ∈ e.writeHandlers) ∧ id ∈ e.readHandlers ∧ e.role id = .readHandler) ∨
    ((¬ ∃ v, (id, v) ∈ e.writeHandlers) ∧ id ∉ e.readHandlers ∧ e.role id = .noHandler) := by
  rw [← lookup_isSome_iff_mem]
  by_cases hw : (e.writeHandlers.lookup id).isSome = true
  · exact .inl ⟨hw, if_pos hw⟩
  · by_cases hr : id ∈ e.readHandlers
    · exact .inr (.inl ⟨hw, hr, (if_neg hw).trans (if_pos hr)⟩)
    · exact .inr (.inr ⟨hw, hr, (if_neg hw).trans (if_neg hr)⟩)

theorem Env.role_eq_writeHandler_iff (e : Env) (id : Ident) :
    e.role id = .writeHandler ↔ ∃ v, (id, v) ∈ e.writeHandlers := by
  obtain ⟨hw, he⟩ | ⟨hw, -, he⟩ | ⟨hw, -, he⟩ := e.role_cases id <;> simp [*]

theorem Env.role_eq_readHandler_iff (e : Env) (id : Ident) :
    e.role id = .readHandler ↔ id ∈ e.readHandlers ∧ ¬ ∃ v, (id, v) ∈ e.writeHandlers := by
  obtain ⟨hw, he⟩ | ⟨hw, hr, he⟩ | ⟨hw, hr, he⟩ := e.role_cases id <;> simp [*]

theorem Env.role_eq_noHandler_iff (e : Env) (id : Ident) :
    e.role id = .noHandler ↔ id ∉ e.readHandlers ∧ ¬ ∃ v, (id, v) ∈ e.writeHandlers := by
  obtain ⟨hw, he⟩ | ⟨hw, hr, he⟩ | ⟨hw, hr, he⟩ := e.role_cases id <;> simp [*]

/-- The value sent is that of a registered write handler (R43). -/
theorem Env.mem_writeHandlers_wvalue {e : Env} {id : Ident} (h : ∃ v, (id, v) ∈ e.writeHandlers) :
    (id, e.wvalue id) ∈ e.writeHandlers := by
  obtain ⟨v, hv⟩ := Option.isSome_iff_exists.mp ((lookup_isSome_iff_mem _ _).mpr h)
  have hmem : (id, v) ∈ e.writeHandlers := by
    obtain ⟨l₁, l₂, hl, -⟩ := List.lookup_eq_some_iff.mp hv
    simp [hl]
  rwa [Env.wvalue, hv]

/-- Settles O43: the identifier 0 is tested first, then the role, which asks for a write handler first. -/
theorem buildRequestCases : Obligations.BuildRequestCases := by
  refine fun e id => ⟨rfl, fun h0 hr => ?_, fun h0 hr => ?_, fun h0 hr => ?_, e.role_eq_writeHandler_iff id,
    e.role_eq_readHandler_iff id, e.role_eq_noHandler_iff id, fun hr => ?_, fun v hv hall => ?_⟩
  · rw [Env.buildRequest, statusId, if_neg h0, hr]
    rfl
  · rw [Env.buildRequest, statusId, if_neg h0, hr]
    rfl
  · rw [Env.buildRequest, statusId, if_neg h0, hr]
    rfl
  · exact Env.mem_writeHandlers_wvalue ((e.role_eq_writeHandler_iff id).mp hr)
  · exact hall _ (Env.mem_writeHandlers_wvalue ⟨v, hv⟩)

end Sys2Proof.Machine
end

section
/-! PROOFS. The main-loop step (R225 to R232): what `LOOP` answers in each mode, then its statements. -/

namespace Sys2Proof.Machine

/-! ### The parts of the step -/

section parts
variable (now : Millis) (s : State)

/-- `StopConversation` (R234) stops the transceiver, stamps the end, and leaves everything else. -/
theorem State.stopConversation_eq :
    s.stopConversation now =
      { s with tx := s.stoppedTx, sched := { s.sched with convEnd := now, convEndValid := true } } := by
  rw [← s.stopTransceiver_eq_stoppedTx]
  rfl

/-- R227: the response is dispatched, the cursor advances, and the conversation ends. -/
theorem State.loopReceived_eq :
    s.beginStep.loopReceived now =
      { s with
        tx := s.stoppedTx
        sched := { s.sched.advanceCursor s.platform s.env.rotRest with convEnd := now, convEndValid := true }
        out := ⟨.none, [(s.env.preProcess (Frame.unpack s.tx.data)).responseEvent]⟩ } := by
  rw [State.loopReceived, State.stopConversation_eq]
  rfl

/-- R228: the error is reported and the conversation ends. -/
theorem State.loopProtocolError_eq :
    s.beginStep.loopProtocolError now =
      { s with
        tx := s.stoppedTx
        sched := { s.sched with convEnd := now, convEndValid := true }
        out := ⟨.none, [.protocolError s.tx.err s.tx.bitPos s.tx.capture s.tx.clock]⟩ } := by
  rw [State.loopProtocolError, State.stopConversation_eq]
  rfl

/-- R229, R232: the timeout is reported and the conversation ends. -/
theorem State.loopTimeout_eq :
    s.beginStep.loopTimeout now =
      { s with
        tx := s.stoppedTx
        sched := { s.sched with convEnd := now, convEndValid := true }
        out := ⟨.none, [.timeout]⟩ } := by
  rw [State.loopTimeout, State.stopConversation_eq]
  rfl

/-- R230: the failure is reported, the conversation ends, and the component is marked. -/
theorem State.loopTimerError_eq :
    s.beginStep.loopTimerError now =
      { s with
        tx := s.stoppedTx
        sched := { s.sched with convEnd := now, convEndValid := true, failed := true }
        out := ⟨.none, [.timerFatal s.tx.terr]⟩ } := by
  rw [State.loopTimerError, State.stopConversation_eq]
  rfl

/-- R224: the request is built, given to the hook, reported and sent, and the start is stamped. -/
theorem State.startConversation_of_available {s : State} (id0 : Ident) (ha : s.tx.available = true) :
    s.startConversation now id0 = .next
      { s with
        tx := startSending s.env (s.env.preSend (s.env.buildRequest id0).1) s.tx
        sched := { s.sched with convStart := now, convStartValid := true }
        out := { s.out with
          events := s.out.events ++
            ((s.env.buildRequest id0).2 ++ [(s.env.preSend (s.env.buildRequest id0).1).requestEvent]) } } :=
  if_pos ha

end parts

/-! ### Before `SETUP`, failed, and in each mode -/

/-- `LOOP` of a component that is set up and failed (R225, R230). -/
theorem execLoop_of_failed {s : State} (now : Millis) (hd : s.sched.setupDone = true) (hf : s.sched.failed = true) :
    execLoop now s = .next s.beginStep := by
  simp [execLoop, hd, hf]

section modes
variable {s : State} (now : Millis) (hd : s.sched.setupDone = true) (hf : s.sched.failed = false)
include hd hf

theorem execLoop_of_received (hm : s.tx.mode = .received) : execLoop now s = .next (s.beginStep.loopReceived now) := by
  simp [execLoop, hd, hf, hm]

theorem execLoop_of_errorProtocol (hm : s.tx.mode = .errorProtocol) :
    execLoop now s = .next (s.beginStep.loopProtocolError now) := by
  simp [execLoop, hd, hf, hm]

theorem execLoop_of_errorTimeout (hm : s.tx.mode = .errorTimeout) :
    execLoop now s = .next (s.beginStep.loopTimeout now) := by
  simp [execLoop, hd, hf, hm]

theorem execLoop_of_errorTimer (hm : s.tx.mode = .errorTimer) :
    execLoop now s = .next (s.beginStep.loopTimerError now) := by
  simp [execLoop, hd, hf, hm]

theorem execLoop_of_active (hm : s.tx.mode = .listen ∨ s.tx.mode = .read ∨ s.tx.mode = .write) :
    execLoop now s = .next (s.beginStep.loopActive now) := by
  obtain hm | hm | hm := hm <;> simp [execLoop, hd, hf, hm]

end modes

/-- Settles O44: `setup_done` and `failed` are tested before the mode. -/
theorem loopBeforeSetupOrFailed : Obligations.LoopBeforeSetupOrFailed :=
  fun _ now => ⟨fun hd => if_pos hd, fun hd hf => execLoop_of_failed now hd hf⟩

/-- Settles O45: `LOOP` on `SENT` calls what the command `LISTEN` calls. -/
theorem loopOnSentListens : Obligations.LoopOnSentListens := fun _ now hd hf hm => execLoop_of_sent now hd hf hm

/-! ### The conversation ends -/

/-- Settles O46: `AdvanceCursor` takes the next entry of the list, or writes the repeating list. -/
theorem loopOnReceived : Obligations.LoopOnReceived := by
  intro s now f hd hf hm hfr
  subst hfr
  have hloop := (execLoop_of_received now hd hf hm).trans (congrArg _ (s.loopReceived_eq now))
  refine ⟨fun hmore => hloop.trans ?_, fun hlast => ⟨_,
    Scheduler.take_writeRot_rot s.env.rotRest s.sched (deriveRepeating_length_le s.platform s.sched), hloop.trans ?_⟩⟩
  · rw [Scheduler.advanceCursor, if_neg hmore]
    rfl
  · rw [Scheduler.advanceCursor, if_pos hlast]
    rfl

/-- Settles O47: each of the two errors is reported and ends the conversation. -/
theorem loopOnRetryableErrors : Obligations.LoopOnRetryableErrors := fun s now hd hf =>
  ⟨fun hm => (execLoop_of_errorProtocol now hd hf hm).trans (congrArg _ (s.loopProtocolError_eq now)),
    fun hm => (execLoop_of_errorTimeout now hd hf hm).trans (congrArg _ (s.loopTimeout_eq now))⟩

/-- Settles O48: the failure is reported and marked, and a failed component's `LOOP` does nothing. -/
theorem loopOnTimerError : Obligations.LoopOnTimerError := by
  intro s now hd hf hm
  have hloop := (execLoop_of_errorTimer now hd hf hm).trans (congrArg _ (s.loopTimerError_eq now))
  refine ⟨hloop, fun later t ht => ?_⟩
  obtain rfl := Host.Outcome.next.inj (hloop.symm.trans ht)
  exact execLoop_of_failed later hd rfl

/-! ### The conversation is under way -/

/-- The ceiling is passed in synchronous mode, more than 1150 ms after the start (R232). -/
theorem ceilingPassed_iff (now : Millis) (c : Scheduler) :
    ceilingPassed now c = true ↔
      c.cfgSync = true ∧ c.convStartValid = true ∧ 1150 < (now - c.convStart).toNat := by
  simp [ceilingPassed, elapsed, maxConvMs, BitVec.lt_def, and_assoc]

/-- Settles O50: an active mode is left alone unless the ceiling is passed. -/
theorem loopOnAnActiveMode : Obligations.LoopOnAnActiveMode := by
  intro s now hd hf hm
  have hloop := execLoop_of_active now hd hf hm
  refine ⟨fun h => hloop.trans (congrArg _ (if_neg fun hp => ?_)), fun hsync hvalid hlt => hloop.trans (congrArg _ ?_)⟩
  · obtain ⟨hsync, hvalid, hlt⟩ := (ceilingPassed_iff now s.sched).mp hp
    simp only [hsync, hvalid, Bool.true_eq_false, false_or] at h
    exact absurd hlt (Nat.not_lt.mpr h)
  · exact (if_pos ((ceilingPassed_iff now s.sched).mpr ⟨hsync, hvalid, hlt⟩)).trans (s.loopTimeout_eq now)

/-! ### The next conversation starts -/

/-- The last conversation exceeded its budget when it took more than 1150 ms (R231). -/
theorem budgetExceeded_iff (c : Scheduler) :
    budgetExceeded c = true ↔
      c.convStartValid = true ∧ c.convEndValid = true ∧ 1150 < (c.convEnd - c.convStart).toNat := by
  simp [budgetExceeded, lastDuration, maxConvMs, BitVec.lt_def, and_assoc]

/-- The gap is pending until 100 ms after the last conversation's end (R231). -/
theorem gapPending_iff (now : Millis) (c : Scheduler) :
    gapPending now c = true ↔ c.convEndValid = true ∧ (now - c.convEnd).toNat < 100 := by
  simp [gapPending, elapsed, minGapMs, BitVec.lt_def]

/-- Inside the list the identifier under the cursor is the table's entry (R35). -/
theorem Scheduler.current_of_getElem? {c : Scheduler} {i : Ident} (hlt : c.cursor.toNat < c.rotLen.toNat)
    (hi : c.rot[c.cursor.toNat]? = some i) : c.current = some i := by
  rw [Scheduler.current, if_pos hlt, ← Vector.getElem?_eq_getElem, hi]

/-- An empty list has no entry under the cursor. -/
theorem Scheduler.rotLen_ne_zero_of_current {c : Scheduler} {i : Ident} (h : c.current = some i) : c.rotLen ≠ 0 :=
  fun h0 => by simp [Scheduler.current, h0] at h

/-- `LOOP` on `IDLE` skips while the gap is pending, and with an empty list (R231). -/
theorem State.loopIdle_of_skip {now : Millis} {s : State}
    (h : gapPending now s.sched = true ∨ s.sched.rotLen = 0) : s.loopIdle now = .next s := by
  rw [State.loopIdle]
  obtain hg | hn := h
  · exact if_pos hg
  · rw [if_pos hn, ite_self]

/-- Settles O49: the gap and the list are tested first, and what is left is `START_CONVERSATION` after the warning. -/
theorem loopOnIdle : Obligations.LoopOnIdle := by
  intro s now hd hf hm
  have hloop := execLoop_of_idle now hd hf hm
  refine ⟨fun hskip => ?_, fun id0 f hgap hcur hid hfr ha => ?_⟩
  · exact hloop.trans (State.loopIdle_of_skip (s := s.beginStep) (hskip.imp_left (gapPending_iff now s.sched).mpr))
  · subst hfr
    refine ⟨_, execSend_of_available _ ha, ?_⟩
    have hidle := State.loopIdle_of_current_eq_some (s := s.beginStep) ((gapPending_eq_false_iff _ _).mpr hgap)
      (Scheduler.current_of_getElem? hcur hid)
    have hstart := fun es => State.startConversation_of_available (s := s.beginStep.emit es) now id0 ha
    refine (hloop.trans hidle).trans ((hstart _).trans ?_)
    simp only [← budgetExceeded_iff, List.append_assoc]
    rfl

/-! ### Requests are emitted by `LOOP` on `IDLE` alone -/

/-- An operation other than `LOOP` emits nothing, or it is a `SETUP` that reports its failure (R44, R217). -/
theorem exec_events_of_ne_loop {i : Instr} {s t : State} (hi : ∀ now, i ≠ .loop now) (h : exec i s = .next t) :
    t.out.events = [] ∨ t.out.events = [.setupFailed] := by
  cases i with
  | init => obtain ⟨-, -, -, -, -, -, he⟩ := execInit_next h; exact .inl he
  | listen => obtain ⟨-, rfl⟩ := State.listen_next h; exact .inl rfl
  | send ty id hb lb => obtain ⟨-, rfl⟩ := State.send_next h; exact .inl rfl
  | getMessage | getProtocolError | stop => cases h; exact .inl rfl
  | tick v =>
    obtain ⟨-, rfl⟩ | ⟨-, -, rfl⟩ | ⟨-, -, rfl⟩ | ⟨-, -, _, -, rfl⟩ := execTick_next h <;> exact .inl rfl
  | cfgMsg id order => obtain ⟨-, rfl⟩ := execCfgMsg_next h; exact .inl rfl
  | cfgCtrl sync ms => obtain ⟨-, -, rfl⟩ := execCfgCtrl_next h; exact .inl rfl
  | setup =>
    obtain ⟨-, -, -, -, -, -, ⟨-, -, ho⟩ | ⟨-, -, ho⟩⟩ := execSetup_next h
    · exact .inr (congrArg Outputs.events ho)
    · exact .inl (congrArg Outputs.events ho)
  | loop now => exact absurd rfl (hi now)

/-- `LOOP` emits a request only where it starts a conversation (R231). -/
theorem execLoop_request {now : Millis} {s t : State} {id : Ident} {ty : BitVec 3} {hb lb : Byte}
    (h : execLoop now s = .next t) (hreq : .request id ty hb lb ∈ t.out.events) :
    s.sched.setupDone = true ∧ s.sched.failed = false ∧ s.tx.mode = .idle ∧ gapPending now s.sched = false ∧
      ∃ id0, s.sched.current = some id0 := by
  obtain ⟨hd, rfl | ⟨hf, ⟨-, hl⟩ | ⟨-, rfl⟩ | ⟨-, rfl⟩ | ⟨-, rfl⟩ | ⟨-, rfl⟩ | ⟨-, -, rfl⟩ | ⟨hm, hg, id0, hc, -⟩⟩⟩ :=
    execLoop_next h
  · cases hreq
  · obtain ⟨-, rfl⟩ := State.listen_next hl
    cases hreq
  · simp [State.loopReceived_eq, Frame.responseEvent] at hreq
  · simp [State.loopProtocolError_eq] at hreq
  · simp at hreq
  · simp [State.loopTimerError_eq] at hreq
  · simp at hreq
  · exact ⟨hd, hf, hm, hg, id0, hc⟩

/-- Settles O57: the only operation that emits a request is a `LOOP` that starts a conversation. -/
theorem conversationsStartOnlyFromIdleAfterTheGap : Obligations.ConversationsStartOnlyFromIdleAfterTheGap := by
  intro i s t id ty hb lb h hreq
  by_cases hi : ∀ now, i ≠ .loop now
  · obtain he | he := exec_events_of_ne_loop hi h <;> simp [he] at hreq
  · obtain ⟨now, rfl⟩ : ∃ now, i = .loop now := by simpa using hi
    obtain ⟨hd, hf, hm, hg, id0, hc⟩ := execLoop_request h hreq
    exact ⟨now, rfl, hd, hf, hm, Scheduler.rotLen_ne_zero_of_current hc, (gapPending_eq_false_iff now s.sched).mp hg⟩

end Sys2Proof.Machine
end

section
/-! PROOFS. The integer interpretations of the data value (R261 to R264, R268): each in terms of the two bytes. -/

namespace Sys2Proof.Machine

variable (hb lb : Byte) {n : Int}

/-! ### Values of a pair of bytes -/

/-- The two placed bytes do not overlap: `raw16` is their concatenation. -/
theorem raw16_eq_append : raw16 hb lb = hb ++ lb := by
  refine BitVec.eq_of_getLsbD_eq fun k hk => ?_
  rw [raw16, BitVec.getLsbD_or, getLsbD_place, getLsbD_place, BitVec.getLsbD_append]
  by_cases h8 : k < 8
  · simp [hk, h8, h8.not_ge]
  · simp [hk, h8, not_lt.mp h8]

theorem u16_eq : u16 hb lb = 256 * hb.toNat + lb.toNat := by
  rw [u16, raw16_eq_append, BitVec.toNat_append, ← Nat.shiftLeft_add_eq_or_of_lt lb.isLt, Nat.shiftLeft_eq]
  omega

theorem s16_eq : s16 hb lb = (if 256 * hb.toNat + lb.toNat < 32768 then (256 * hb.toNat + lb.toNat : Int)
    else 256 * hb.toNat + lb.toNat - 65536) := by
  simp [s16, u16_eq]

/-- `S16` is the two's complement reading of `raw16` (R264). -/
theorem toInt_raw16 : (raw16 hb lb).toInt = s16 hb lb := by
  rw [BitVec.toInt_eq_toNat_cond, s16, u16]
  split <;> split <;> omega

/-- `S16` is the signed high byte and the unsigned low byte (R265). -/
theorem s16_eq_toInt_add : s16 hb lb = 256 * hb.toInt + lb.toNat := by
  rw [s16_eq, BitVec.toInt_eq_toNat_cond]
  split <;> split <;> omega

theorem s16_emod : s16 hb lb % 65536 = u16 hb lb := by
  rw [s16_eq, u16_eq]
  split <;> omega

theorem s16_mem_range : -32768 ≤ s16 hb lb ∧ s16 hb lb ≤ 32767 := by
  rw [s16_eq]
  split <;> omega

theorem flagOf_eq (x : Byte) (k : Fin 8) : flagOf x k = decide (x.toNat / 2 ^ k.val % 2 = 1) := by
  rw [flagOf, ← BitVec.testBit_toNat, Nat.testBit_eq_decide_div_mod_eq]

/-! ### The positive setpoint -/

theorem setpointPositive_iff_s16 : setpointPositive hb lb = true ↔ 0 < s16 hb lb := decide_eq_true_iff

theorem f88_pos_iff : 0 < f88 hb lb ↔ 0 < s16 hb lb := by
  rw [f88, div_pos_iff_of_pos_right (by norm_num), Int.cast_pos]

/-- `S16` is positive where the sign bit is clear and some byte is not 0. -/
theorem s16_pos_iff : 0 < s16 hb lb ↔ hb.toNat < 128 ∧ (hb ≠ 0 ∨ lb ≠ 0) := by
  simp only [s16_eq, ne_eq, ← BitVec.toNat_inj, BitVec.ofNat_eq_ofNat, BitVec.toNat_zero]
  split <;> omega

/-! ### The inverses -/

theorem exists_u16Inverse (h0 : 0 ≤ n) (h1 : n ≤ 65535) :
    ∃ hb lb : Byte, u16Inverse n = some (hb, lb) ∧ (hb.toNat : Int) = n / 256 ∧ (lb.toNat : Int) = n % 256 := by
  refine ⟨_, _, if_pos ⟨h0, h1⟩, ?_, ?_⟩ <;> rw [BitVec.toNat_ofInt] <;> omega

theorem exists_s16Inverse (h0 : -32768 ≤ n) (h1 : n ≤ 32767) :
    ∃ hb lb : Byte, s16Inverse n = some (hb, lb) ∧ (256 * hb.toNat + lb.toNat : Int) = n % 65536 := by
  obtain ⟨hb, lb, he, hh, hl⟩ := exists_u16Inverse (n := n % 65536) (by omega) (by omega)
  exact ⟨hb, lb, (if_pos ⟨h0, h1⟩).trans he, by omega⟩

theorem u16Inverse_u16 : u16Inverse (u16 hb lb) = some (hb, lb) := by
  have hu := u16_eq hb lb
  obtain ⟨hb', lb', he, hh, hl⟩ := exists_u16Inverse (n := u16 hb lb) (by omega) (by omega)
  have hhb : hb' = hb := BitVec.eq_of_toNat_eq (by omega)
  have hlb : lb' = lb := BitVec.eq_of_toNat_eq (by omega)
  rw [he, hhb, hlb]

theorem s16Inverse_s16 : s16Inverse (s16 hb lb) = some (hb, lb) := by
  rw [s16Inverse, if_pos (s16_mem_range hb lb), s16_emod, u16Inverse_u16]

theorem u16Inverse_eq_none (h : n < 0 ∨ 65535 < n) : u16Inverse n = none := if_neg (by omega)

theorem s16Inverse_eq_none (h : n < -32768 ∨ 32767 < n) : s16Inverse n = none := if_neg (by omega)

/-- Every integer in the signed range is the `S16` of a pair of bytes. -/
theorem exists_s16_eq (h0 : -32768 ≤ n) (h1 : n ≤ 32767) : ∃ hb lb : Byte, s16 hb lb = n := by
  obtain ⟨hb, lb, -, he⟩ := exists_s16Inverse h0 h1
  refine ⟨hb, lb, ?_⟩
  rw [s16_eq]
  split <;> omega

/-- A value out of range has no encoding (R267). -/
theorem not_encodesF88_of_out_of_range {v : ℝ} (h : v < -128 ∨ 128 ≤ v) (w : BitVec 16) : ¬ EncodesF88 v w :=
  fun ⟨hlo, hhi, _⟩ => h.elim hlo.not_gt hhi.not_ge

/-- Settles O58: each interpretation is read off its two bytes, and each inverse has an equation in range and one out
of it. -/
theorem integerInterpretationsInvert : Obligations.IntegerInterpretationsInvert :=
  ⟨fun hb lb =>
    ⟨rfl, flagOf_eq hb, u16_eq hb lb, s16_eq hb lb, u16Inverse_u16 hb lb, s16Inverse_s16 hb lb,
      (setpointPositive_iff_s16 hb lb).trans (f88_pos_iff hb lb).symm,
      (setpointPositive_iff_s16 hb lb).trans (s16_pos_iff hb lb)⟩,
    fun _ => exists_u16Inverse, fun _ => exists_s16Inverse,
    fun _ => ⟨u16Inverse_eq_none, s16Inverse_eq_none⟩, fun _ => not_encodesF88_of_out_of_range⟩

end Sys2Proof.Machine
end

section
/-! PROOFS. Rounding toward zero (R266), and the 8.8 encoding built on it (R265 to R267). -/

namespace Sys2Proof.Machine

variable {x v : ℝ} {m n : Int}

/-! ### Rounding toward zero -/

/-- Rounding toward zero is the floor of a nonnegative number and the ceiling of a negative one. -/
theorem isTrunc_iff : IsTrunc x n ↔ n = if 0 ≤ x then ⌊x⌋ else ⌈x⌉ := by
  by_cases h : 0 ≤ x
  · simp [IsTrunc, h, h.not_gt, eq_comm (a := n), Int.floor_eq_iff]
  · simp [IsTrunc, h, not_le.mp h, eq_comm (a := n), Int.ceil_eq_iff, and_comm]

theorem exists_isTrunc (x : ℝ) : ∃ n, IsTrunc x n := ⟨_, isTrunc_iff.mpr rfl⟩

theorem IsTrunc.unique (hm : IsTrunc x m) (hn : IsTrunc x n) : m = n :=
  (isTrunc_iff.mp hm).trans (isTrunc_iff.mp hn).symm

theorem isTrunc_intCast (n : Int) : IsTrunc n n := by
  simp [isTrunc_iff]

theorem IsTrunc.nonneg (h : IsTrunc x n) (hx : 0 ≤ x) : 0 ≤ n := by
  rw [isTrunc_iff.mp h, if_pos hx]
  exact Int.floor_nonneg.mpr hx

theorem IsTrunc.nonpos (h : IsTrunc x n) (hx : x < 0) : n ≤ 0 := by
  rw [isTrunc_iff.mp h, if_neg hx.not_ge]
  exact Int.ceil_nonpos.mpr hx.le

theorem IsTrunc.abs_le (h : IsTrunc x n) : |(n : ℝ)| ≤ |x| := by
  obtain hx | hx := le_or_gt 0 x
  · obtain ⟨hle, -⟩ := h.1 hx
    exact abs_le_abs_of_nonneg (Int.cast_nonneg (h.nonneg hx)) hle
  · obtain ⟨hle, -⟩ := h.2 hx
    exact abs_le_abs_of_nonpos (Int.cast_nonpos.mpr (h.nonpos hx)) hle

theorem IsTrunc.abs_sub_lt_one (h : IsTrunc x n) : |(n : ℝ) - x| < 1 := by
  rw [abs_sub_lt_iff]
  obtain hx | hx := le_or_gt 0 x
  · obtain ⟨hle, hlt⟩ := h.1 hx
    constructor <;> linarith
  · obtain ⟨hle, hlt⟩ := h.2 hx
    constructor <;> linarith

/-- A number in a range with an integer lower end at most 0 and an integer upper end above 0 is rounded into it. -/
theorem IsTrunc.mem_Ico {a b : Int} (h : IsTrunc x n) (ha : a ≤ 0) (hb : 0 < b) (hlo : a ≤ x) (hhi : x < b) :
    a ≤ n ∧ n < b := by
  obtain hx | hx := le_or_gt 0 x
  · obtain ⟨hle, -⟩ := h.1 hx
    exact ⟨ha.trans (h.nonneg hx), Int.cast_lt.mp (hle.trans_lt hhi)⟩
  · obtain ⟨hle, -⟩ := h.2 hx
    exact ⟨Int.cast_le.mp (hlo.trans hle), (h.nonpos hx).trans_lt hb⟩

theorem truncToZero_eq (q : Rat) : truncToZero q = if 0 ≤ q then ⌊q⌋ else ⌈q⌉ := by
  rw [truncToZero]
  split
  next h => rw [Rat.floor_def', Int.tdiv_eq_ediv_of_nonneg (Rat.num_nonneg.mpr h)]
  next h =>
    have hnum : 0 ≤ -q.num := by rw [← Rat.num_neg_eq_neg_num, Rat.num_nonneg]; linarith
    rw [← neg_inj, ← Int.neg_tdiv, Int.tdiv_eq_ediv_of_nonneg hnum, ← Int.floor_neg, Rat.floor_def',
      Rat.num_neg_eq_neg_num, Rat.den_neg_eq_den]

/-- The evaluation on rational numbers rounds toward zero. -/
theorem isTrunc_truncToZero (q : Rat) : IsTrunc (q : ℝ) (truncToZero q) := by
  simp [isTrunc_iff, truncToZero_eq]

/-! ### The 8.8 encoding -/

theorem f88_eq (hb lb : Byte) : f88 hb lb = (hb.toInt : Rat) + (lb.toNat : Rat) / 256 := by
  rw [f88, s16_eq_toInt_add]
  push_cast
  ring

theorem f88_cast (hb lb : Byte) : (f88 hb lb : ℝ) = (s16 hb lb : ℝ) / 256 := by
  simp [f88]

/-- Rounding being unique, a value in range is encoded by its rounding alone. -/
theorem encodesF88_iff_of_isTrunc (hn : IsTrunc (v * 256) n) (w : BitVec 16) :
    EncodesF88 v w ↔ (-128 ≤ v ∧ v < 128) ∧ BitVec.ofInt 16 n = w := by
  constructor
  · rintro ⟨hlo, hhi, m, hm, rfl⟩
    exact ⟨⟨hlo, hhi⟩, by rw [hn.unique hm]⟩
  · rintro ⟨⟨hlo, hhi⟩, rfl⟩
    exact ⟨hlo, hhi, n, hn, rfl⟩

/-- A value in range is rounded to the `S16` of a pair of bytes. -/
theorem exists_isTrunc_s16 (hlo : -128 ≤ v) (hhi : v < 128) : ∃ hb lb : Byte, IsTrunc (v * 256) (s16 hb lb) := by
  obtain ⟨n, hn⟩ := exists_isTrunc (v * 256)
  obtain ⟨h0, h1⟩ := hn.mem_Ico (a := -32768) (b := 32768) (by norm_num) (by norm_num)
    (by push_cast; linarith) (by push_cast; linarith)
  obtain ⟨hb, lb, rfl⟩ := exists_s16_eq h0 (Int.le_of_lt_add_one h1)
  exact ⟨hb, lb, hn⟩

section decode
variable {hb lb : Byte} (h : IsTrunc (v * 256) (s16 hb lb))
include h

theorem encodesF88_iff_eq_raw16 (hlo : -128 ≤ v) (hhi : v < 128) (w : BitVec 16) :
    EncodesF88 v w ↔ w = raw16 hb lb := by
  rw [encodesF88_iff_of_isTrunc h, ← toInt_raw16, BitVec.ofInt_toInt, and_iff_right ⟨hlo, hhi⟩, eq_comm]

theorem abs_f88_sub_lt : |(f88 hb lb : ℝ) - v| < 1 / 256 := by
  have hs := h.abs_sub_lt_one
  rw [abs_lt] at hs ⊢
  rw [f88_cast]
  constructor <;> linarith

theorem abs_f88_le : |(f88 hb lb : ℝ)| ≤ |v| := by
  have hs := h.abs_le
  rwa [abs_mul, Nat.abs_ofNat, ← div_le_iff₀ (by norm_num), ← Nat.abs_ofNat 256, ← abs_div, ← f88_cast] at hs

theorem f88_eq_of_mul_eq_intCast (hv : v * 256 = n) : (f88 hb lb : ℝ) = v := by
  rw [f88_cast, h.unique (hv ▸ isTrunc_intCast n), ← hv]
  ring

end decode

/-- The function on rational numbers agrees with the relation (log 9). -/
theorem encF88_eq_some_iff (q : Rat) (w : BitVec 16) : encF88 q = some w ↔ EncodesF88 (q : ℝ) w := by
  have hn : IsTrunc ((q : ℝ) * 256) (truncToZero (q * 256)) := by
    simpa using isTrunc_truncToZero (q * 256)
  have hrange : (-128 ≤ (q : ℝ) ∧ (q : ℝ) < 128) ↔ -128 ≤ q ∧ q < 128 := by norm_cast
  simp [encodesF88_iff_of_isTrunc hn, hrange, encF88]

/-- Settles O59: the value rounded toward zero at the 8.8 scale is the `S16` of one pair of bytes, and the bounds are
those of the rounding. -/
theorem fixedPointEncodingIsWithinOneStep : Obligations.FixedPointEncodingIsWithinOneStep := by
  refine ⟨f88_eq, fun v => ⟨fun hlo hhi => ?_, not_encodesF88_of_out_of_range⟩, encF88_eq_some_iff⟩
  obtain ⟨hb, lb, h⟩ := exists_isTrunc_s16 hlo hhi
  have henc := encodesF88_iff_eq_raw16 h hlo hhi
  exact ⟨hb, lb, (henc _).mpr rfl, fun w => (henc w).mp, abs_f88_sub_lt h, abs_f88_le h,
    fun ⟨_, hv⟩ => f88_eq_of_mul_eq_intCast h hv⟩

end Sys2Proof.Machine
end

section
/-! PROOFS. The two cause registers (R22, R23, R287): which operations write `err`, which write `terr`, and what they
write there. -/

namespace Sys2Proof.Machine

/-! ### The shared operations -/

@[simp] theorem finishIn_err (m : Mode) (r : TimerResult) (x : Transceiver) : (finishIn m r x).err = x.err := by
  obtain ⟨-, e⟩ | ⟨-, -, e⟩ | ⟨-, -, e⟩ := finishIn_cases m r x <;> rw [e]

@[simp] theorem raiseProtocolError_err (t : ProtocolError) (r : TimerResult) (x : Transceiver) :
    (raiseProtocolError t r x).err = t := by
  rw [raiseProtocolError_eq]

@[simp] theorem stopTransceiver_err (r : TimerResult) (x : Transceiver) : (stopTransceiver r x).err = x.err := by
  obtain ⟨-, e⟩ | ⟨-, -, e⟩ | ⟨-, -, e⟩ := stopTransceiver_cases r x <;> rw [e]

@[simp] theorem startListening_err (e : Env) (ms : Word) (x : Transceiver) : (startListening e ms x).err = x.err := by
  obtain ⟨-, -, e⟩ | ⟨-, -, e⟩ | ⟨-, -, e⟩ := startListening_cases e ms x <;> rw [e]

@[simp] theorem startSending_err (e : Env) (f : Frame) (x : Transceiver) : (startSending e f x).err = x.err := by
  obtain ⟨-, -, e⟩ | ⟨-, -, e⟩ | ⟨-, -, e⟩ := startSending_cases e f x <;> rw [e]

/-- From `x` to `y` the register `terr` is kept, unless the disarm draw `r` failed while the timer ran (R140). -/
def TerrByDisarm (r : TimerResult) (x y : Transceiver) : Prop :=
  y.terr = x.terr ∨ y.terr = .disarm ∧ r = .fail ∧ x.timerRun = true

theorem terrByDisarm_finishIn (m : Mode) (r : TimerResult) (x : Transceiver) : TerrByDisarm r x (finishIn m r x) := by
  obtain ⟨-, e⟩ | ⟨-, -, e⟩ | ⟨hr, hd, e⟩ := finishIn_cases m r x <;> rw [e]
  · exact .inl rfl
  · exact .inl rfl
  · exact .inr ⟨rfl, hd, hr⟩

theorem terrByDisarm_raiseProtocolError (t : ProtocolError) (r : TimerResult) (x : Transceiver) :
    TerrByDisarm r x (raiseProtocolError t r x) := terrByDisarm_finishIn .errorProtocol r { x with err := t }

theorem terrByDisarm_stopTransceiver (r : TimerResult) (x : Transceiver) :
    TerrByDisarm r x (stopTransceiver r x) := by
  obtain ⟨-, e⟩ | ⟨-, -, e⟩ | ⟨hr, hd, e⟩ := stopTransceiver_cases r x <;> rw [e]
  · exact .inl rfl
  · exact .inl rfl
  · exact .inr ⟨rfl, hd, hr⟩

/-- From `x` to `y` the register `terr` is kept, or the disarm failed, or the arm did and `y` is in `ERROR_TIMER`
(R140, R141). -/
def TerrByTimer (e : Env) (x y : Transceiver) : Prop :=
  TerrByDisarm e.disarm x y ∨ y.terr = .arm ∧ e.arm = .fail ∧ y.mode = .errorTimer

theorem terrByTimer_startListening (e : Env) (ms : Word) (x : Transceiver) :
    TerrByTimer e x (startListening e ms x) := by
  obtain ⟨hr, hd, h⟩ | ⟨-, ha, h⟩ | ⟨-, -, h⟩ := startListening_cases e ms x <;> rw [h]
  · exact .inl (.inr ⟨rfl, hd, hr⟩)
  · exact .inr ⟨rfl, ha, rfl⟩
  · exact .inl (.inl rfl)

theorem terrByTimer_startSending (e : Env) (f : Frame) (x : Transceiver) : TerrByTimer e x (startSending e f x) := by
  obtain ⟨hr, hd, h⟩ | ⟨-, ha, h⟩ | ⟨-, -, h⟩ := startSending_cases e f x <;> rw [h]
  · exact .inl (.inr ⟨rfl, hd, hr⟩)
  · exact .inr ⟨rfl, ha, rfl⟩
  · exact .inl (.inl rfl)

/-! ### The ticks -/

@[simp] theorem tickListen_err (v : Bool) (r : TimerResult) (x : Transceiver) : (tickListen v r x).err = x.err := by
  obtain ⟨-, e⟩ | ⟨-, -, e⟩ | ⟨-, -, e⟩ := tickListen_cases v r x <;> simp [e]

@[simp] theorem tickWrite_err (b : Bool) (r : TimerResult) (x : Transceiver) : (tickWrite b r x).err = x.err := by
  obtain ⟨-, e⟩ | ⟨-, -, e⟩ | ⟨-, -, e⟩ := tickWrite_cases b r x <;> simp [e]

theorem terrByDisarm_tickListen (v : Bool) (r : TimerResult) (x : Transceiver) :
    TerrByDisarm r x (tickListen v r x) := by
  obtain ⟨-, e⟩ | ⟨-, -, e⟩ | ⟨-, -, e⟩ := tickListen_cases v r x <;> rw [e]
  · exact terrByDisarm_finishIn _ r x
  · exact .inl rfl
  · exact .inl rfl

theorem terrByDisarm_tickWrite (b : Bool) (r : TimerResult) (x : Transceiver) :
    TerrByDisarm r x (tickWrite b r x) := by
  obtain ⟨-, e⟩ | ⟨-, -, e⟩ | ⟨-, -, e⟩ := tickWrite_cases b r x <;> rw [e]
  · exact .inl rfl
  · exact terrByDisarm_finishIn .sent r { x with lineOut := b, clock := true }
  · exact .inl rfl

/-- A reading tick raises a protocol error, receives the frame, or writes neither cause register (R172, R176). -/
theorem tickRead_outcome (v : Bool) (r : TimerResult) (x : Transceiver) :
    (∃ t, t ≠ .noError ∧ tickRead v r x = raiseProtocolError t r x) ∨
    tickRead v r x = finishIn .received r x ∨
    ((tickRead v r x).err = x.err ∧ (tickRead v r x).terr = x.terr) := by
  obtain ⟨-, -, e⟩ | ⟨-, -, e⟩ | ⟨-, -, -, e⟩ | ⟨-, -, -, e⟩ | ⟨-, -, -, e⟩ | ⟨-, -, -, e⟩ := tickRead_cases v r x <;>
    rw [e]
  · exact .inl ⟨.noChangeTooLong, by decide, rfl⟩
  · exact .inr (.inr ⟨rfl, rfl⟩)
  · exact .inl ⟨.noTransition, by decide, rfl⟩
  · obtain ⟨-, e⟩ | ⟨-, -, e⟩ | ⟨-, -, e⟩ := stopBit_cases (lastSample x.capture) r x <;> rw [e]
    · exact .inl ⟨.invalidStopBit, by decide, rfl⟩
    · exact .inl ⟨.parityError, by decide, rfl⟩
    · exact .inr (.inl rfl)
  · exact .inr (.inr ⟨rfl, rfl⟩)
  · exact .inr (.inr ⟨rfl, rfl⟩)

/-- Where a reading tick changes `err` it has raised a protocol error (R180, R294). -/
theorem tickRead_err_ne {v : Bool} {r : TimerResult} {x : Transceiver} (hne : (tickRead v r x).err ≠ x.err) :
    (tickRead v r x).err ≠ .noError ∧
      ((tickRead v r x).mode = .errorProtocol ∨ (tickRead v r x).mode = .errorTimer) := by
  obtain ⟨t, ht, e⟩ | e | ⟨he, -⟩ := tickRead_outcome v r x
  · have hm := mode_raiseProtocolError_mem t r x
    rw [e, raiseProtocolError_err]
    exact ⟨ht, by simpa using hm⟩
  · exact absurd (by rw [e, finishIn_err]) hne
  · exact absurd he hne

theorem terrByDisarm_tickRead (v : Bool) (r : TimerResult) (x : Transceiver) :
    TerrByDisarm r x (tickRead v r x) := by
  obtain ⟨t, -, e⟩ | e | ⟨-, he⟩ := tickRead_outcome v r x
  · exact e ▸ terrByDisarm_raiseProtocolError t r x
  · exact e ▸ terrByDisarm_finishIn .received r x
  · exact .inl he

/-! ### The operations -/

/-- Every effect on the transceiver record leaves `terr`, or a timer primitive failed (R23). -/
theorem TxEffect.terrByTimer {s : State} {x : Transceiver} (e : TxEffect s x) : TerrByTimer s.env s.tx x := by
  cases e with
  | keep => exact .inl (.inl rfl)
  | init => exact .inl (.inl rfl)
  | listen => exact terrByTimer_startListening _ _ _
  | send f => exact terrByTimer_startSending _ f _
  | stop => exact .inl (terrByDisarm_stopTransceiver _ _)
  | tickListen v => exact .inl (terrByDisarm_tickListen v _ _)
  | tickRead v => exact .inl (terrByDisarm_tickRead v _ _)
  | tickWrite b => exact .inl (terrByDisarm_tickWrite b _ _)

/-- `LOOP` leaves `err`, for it does no more than the three commands do. -/
theorem execLoop_err {now : Millis} {s t : State} (h : execLoop now s = .next t) : t.tx.err = s.tx.err := by
  obtain htx | ⟨-, htx⟩ | ⟨-, _, htx⟩ | htx := execLoop_tx h <;> simp [htx]

/-- Only a tick in mode `READ` reaches `err` (R22). -/
theorem exec_err {i : Instr} {s t : State} (h : exec i s = .next t) :
    (∃ v, i = .tick v ∧ s.tx.mode = .read ∧ t.tx = tickRead v s.env.disarm s.tx) ∨ t.tx.err = s.tx.err := by
  cases i with
  | tick v =>
    obtain ⟨-, rfl⟩ | ⟨-, -, rfl⟩ | ⟨-, hm, rfl⟩ | ⟨-, -, b, -, rfl⟩ := execTick_next h
    · exact .inr rfl
    · exact .inr (tickListen_err _ _ _)
    · exact .inl ⟨v, rfl, hm, rfl⟩
    · exact .inr (tickWrite_err _ _ _)
  | init =>
    obtain ⟨-, htx, -⟩ := execInit_next h
    rw [htx]
    exact .inr rfl
  | listen =>
    obtain ⟨-, rfl⟩ := State.listen_next h
    exact .inr (startListening_err _ _ _)
  | send ty id hb lb =>
    obtain ⟨-, rfl⟩ := State.send_next h
    exact .inr (startSending_err _ _ _)
  | stop =>
    cases h
    exact .inr (stopTransceiver_err _ _)
  | loop now => exact .inr (execLoop_err h)
  | getMessage | getProtocolError =>
    cases h
    exact .inr rfl
  | cfgMsg id order =>
    obtain ⟨-, rfl⟩ := execCfgMsg_next h
    exact .inr rfl
  | cfgCtrl sync ms =>
    obtain ⟨-, -, rfl⟩ := execCfgCtrl_next h
    exact .inr rfl
  | setup =>
    obtain ⟨-, -, htx, -⟩ := execSetup_next h
    rw [htx]
    exact .inr rfl

/-- Settles O54: a change of `err` is that of a reading tick, and a change of `terr` is that of a failed timer
primitive. -/
theorem causeRegistersAreSticky : Obligations.CauseRegistersAreSticky := by
  intro i s t h
  constructor
  · intro hne
    obtain ⟨v, hi, hm, htx⟩ | he := exec_err h
    · rw [htx] at hne ⊢
      exact ⟨⟨v, hi⟩, hm, tickRead_err_ne hne⟩
    · exact absurd he hne
  · intro hne
    obtain (hkept | hdisarm) | harm := (exec_tx h).terrByTimer
    · exact absurd hkept hne
    · exact .inl hdisarm
    · exact .inr harm

end Sys2Proof.Machine
end
